-- ==== Sys2Proof/Config.lean ====
section
/-! DEFINITION. What is fixed for the block: the named literals of 00_scope.md rule R6, each written down here and nowhere
else in the model (log entry 11; the widths of rule R7 are those of the types of Word.lean), and the parameters and values that the spec leaves open, as constants with no
body (R7, 93_implementation_defined.md I1, I2, I3, I8, I9), so that no proof can see what they are. -/

namespace Sys2Proof.Config

/-! ### Widths the source settles (R6) -/

/-- `KLQ_BLOCK_W` (R6). -/
@[simp] abbrev klqBlockW : Nat := 32

/-- `KLQ_KEY_W` (R6). -/
@[simp] abbrev klqKeyW : Nat := 64

/-- `KLQ_CTR_W` (R6): the counter of the KeeLoq variant wraps modulo `2 ^ KLQ_CTR_W`. -/
@[simp] abbrev klqCtrW : Nat := 4

/-- `KLQ_PAYLOAD_W` (R6): also the place of the counter in the block, right above the payload. -/
@[simp] abbrev klqPayloadW : Nat := 28

/-- `KLQ_ROUNDKEY_W` (R6). -/
@[simp] abbrev klqRoundKeyW : Nat := 32

/-- `KLQ_FEEDBACK_W` (R6). -/
@[simp] abbrev klqFeedbackW : Nat := 64

/-- `AES_KEY_W` (R6). -/
@[simp] abbrev aesKeyW : Nat := 128

/-- `AES_BLOCK_W` (R6). -/
@[simp] abbrev aesBlockW : Nat := 128

/-! ### Values the source settles (R6) -/

/-- `KLQ_ROUNDS` (R6). -/
def klqRounds : Nat := 528

/-- `KLQ_KEY_PHASE_MOD`: round `r` uses key phase `r mod 64` (R6). -/
def klqKeyPhaseMod : Nat := 64

/-- `KLQ_TAPS`: the sixteen taps of the round key (R6). -/
def klqTaps : List Nat := [0, 2, 3, 5, 7, 10, 11, 13, 14, 15, 17, 19, 22, 24, 26, 28]

/-- `TOL_DEFAULT` (R6). -/
def tolDefault : BitVec 8 := 5

/-- The source's mask of a KeeLoq counter, `counter & 0xF` (R74, R100, R132). -/
def klqCtrMask : BitVec klqBlockW := 0xF

/-- The source's mask of a KeeLoq payload, `payload & 0x0FFFFFFF` (R74, R100), and the bits of PAYLOAD that exist (R29). -/
def klqPayloadMask : BitVec klqBlockW := 0x0FFFFFFF

/-- The bit of the feedback register that takes output bit 0 of a round (R103). -/
def klqFeedbackBit : Nat := 63

/-- The least counter that no AES code serialises and no receiver counter holds (R131, R152, R157). -/
def aesCtrLimit : Nat := 2 ^ 128

/-! ### Values the spec decides -/

/-- `WINDOW`: the bytes of the window, and so the number of offsets (R7, R50). -/
def window : Nat := 256

/-- The key length in bytes that CONFIGURE requires of an AES pair (R77). -/
def aesKeyBytes : BitVec 5 := 16#5

/-- The key length in bytes that CONFIGURE requires of a KeeLoq pair (R77). -/
def klqKeyBytes : BitVec 5 := 8#5

/-- The bits of CTRL that exist: VARIANT, KEYLEN and TOLERANCE (R24). -/
def ctrlMask : BitVec 32 := 0x00FF1F01

/-! ### Open parameters and free values -/

/-- `AES128(key, block)`: a total function of which nothing else is known (R130, I1; log entry 3). -/
opaque aes128 : BitVec aesKeyW → BitVec aesBlockW → BitVec aesBlockW

/-- `LATENCY` (R7, I2; log entry 1): the number of Host steps that come between an issue and its completion,
for the issue that draws the free value of this number. Finite and otherwise unconstrained (R184, R250). -/
opaque latency : Nat → Nat

/-- What a Host read of DOUT, RESULT or CTR returns while BUSY = 1, for the read that draws the free value of
this number (R59, I3; log entry 2). -/
opaque busyRead : Nat → BitVec 32

/-- `BASE`: the platform's base address of the register window (R7, R50, I8; log entry 9). -/
opaque base : Nat

/-- Whether reset is synchronous or asynchronous to the clock (R7, R232). -/
inductive ResetKind where
  | synchronous
  | asynchronous
deriving DecidableEq, Repr, Inhabited

/-- `RESET_KIND` (R7, R232, I9; log entry 10): only the effect of reset is specified, and nothing depends on this. -/
opaque resetKind : ResetKind

end Sys2Proof.Config
end

