-- ==== Sys2Proof/Word.lean ====
section
/-! DEFINITION. The word types of the block, one for each fixed width of 00_scope.md rules R6 and R7: the widths of
R6 are named in Config.lean, those of R7 are written down here. Every value is unsigned and bit 0 is the least significant (R8). -/

namespace Sys2Proof

/-- A bus word, a register, a command word (`BUS_W`, R7). -/
abbrev Word := BitVec 32

/-- A register offset in the window of 256 bytes (`WINDOW`, R7, R50). -/
abbrev Offset := BitVec 8

/-- A 128-bit register value `X0, X1, X2, X3` read as one number (R9). -/
abbrev Wide := BitVec 128

/-- The KeeloqCipher block (`KLQ_BLOCK_W`, R6). -/
abbrev KlqBlock := BitVec Config.klqBlockW

/-- The KeeloqCipher master key (`KLQ_KEY_W`, R6). -/
abbrev KlqKey := BitVec Config.klqKeyW

/-- The 4-bit counter of the KeeLoq variant (`KLQ_CTR_W`, R6). -/
abbrev KlqCounter := BitVec Config.klqCtrW

/-- The 28-bit payload of the KeeLoq variant (`KLQ_PAYLOAD_W`, R6). -/
abbrev KlqPayload := BitVec Config.klqPayloadW

/-- One round key of the KeeloqCipher (`KLQ_ROUNDKEY_W`, R6). -/
abbrev KlqRoundKey := BitVec Config.klqRoundKeyW

/-- The round-key feedback register of the cipher datapath (`KLQ_FEEDBACK_W`, R6, R33). -/
abbrev KlqFeedback := BitVec Config.klqFeedbackW

/-- An AES-128 key (`AES_KEY_W`, R6). -/
abbrev AesKey := BitVec Config.aesKeyW

/-- An AES-128 block: a code or a serialised counter (`AES_BLOCK_W`, R6). -/
abbrev AesBlock := BitVec Config.aesBlockW

/-- The receiver counter of the AES variant (`AES_CTR_W`, R7). -/
abbrev Counter := BitVec 128

/-- A tolerance (`TOL_W`, R7): every value is legal. -/
abbrev Tolerance := BitVec 8

/-- Four consecutive 32-bit registers X0, X1, X2, X3 at rising offsets (R52). -/
structure Quad where
  x0 : Word
  x1 : Word
  x2 : Word
  x3 : Word
deriving DecidableEq, Repr

end Sys2Proof
end

