-- ==== Sys2Proof/Syntax.lean ====
section
/-! DEFINITION. The commands of the block: one constructor for each row of spec/opcode_table.json (30_encoding.md
rule R71). A command carries no operand field (R73): every operand comes from a fixed register. -/

namespace Sys2Proof

/-- The seven commands (R71). -/
inductive Instr where
  /-- NOP, 43_control.md rule R186. -/
  | nop
  /-- CONFIGURE, 43_control.md rule R182. -/
  | configure
  /-- GENERATE, 41_code_generator.md rule R136. -/
  | generate
  /-- AES_COMPARE, 42_rolling_matcher.md rule R155. -/
  | aesCompare
  /-- KLQ_RECEIVE, 42_rolling_matcher.md rule R165. -/
  | klqReceive
  /-- KLQ_ENCRYPT, 40_keeloq_cipher.md rule R110. -/
  | klqEncrypt
  /-- KLQ_DECRYPT, 40_keeloq_cipher.md rule R112. -/
  | klqDecrypt
deriving DecidableEq, Repr

end Sys2Proof
end

