-- ==== Sys2Proof/WellFormed.lean ====
section
/-! DEFINITION. Well-formedness. A command has no operand (R73), so every command is well formed; what can be
ill formed is a command WORD, whose two fields are checked here (30_encoding.md rules R70, R72; log entry 14). -/

namespace Sys2Proof

/-- Every command of R71 is well formed: it has no field that a check could refuse (R73). -/
def Instr.wellFormed : Instr → Bool
  | .nop => true
  | .configure => true
  | .generate => true
  | .aesCompare => true
  | .klqReceive => true
  | .klqEncrypt => true
  | .klqDecrypt => true

/-- Bits 31:8 of a command word are reserved and required to be 0 (R70). -/
def reservedZero (w : Word) : Bool := w.extractLsb' 8 24 = 0#24

/-- OPCODE, bits 7:0, is one of 0x00 .. 0x06 (R71, R72). -/
def opcodeAssigned (w : Word) : Bool := (w.extractLsb' 0 8).toNat ≤ 6

/-- A legal command word: both fields pass their check (R72). -/
def wordWellFormed (w : Word) : Bool := reservedZero w && opcodeAssigned w

end Sys2Proof
end

