-- ==== Sys2Proof/Decode.lean ====
section
/-! DEFINITION. The decoder of command words, written from the opcode map of 30_encoding.md rule R71 as a table of
masks and patterns, and the encoder, written from the format of rule R70. -/

namespace Sys2Proof

/-- One row of the opcode map: a word with `w & mask = pattern` is the command (R71). -/
structure OpcodeRow where
  mask    : Word
  pattern : Word
  instr   : Instr
deriving DecidableEq, Repr

/-- The opcode map (R71; spec/opcode_table.json): the whole word is compared (R72). -/
def opcodeTable : List OpcodeRow :=
  [ ⟨0xFFFFFFFF#32, 0x00000000#32, .nop⟩,
    ⟨0xFFFFFFFF#32, 0x00000001#32, .configure⟩,
    ⟨0xFFFFFFFF#32, 0x00000002#32, .generate⟩,
    ⟨0xFFFFFFFF#32, 0x00000003#32, .aesCompare⟩,
    ⟨0xFFFFFFFF#32, 0x00000004#32, .klqReceive⟩,
    ⟨0xFFFFFFFF#32, 0x00000005#32, .klqEncrypt⟩,
    ⟨0xFFFFFFFF#32, 0x00000006#32, .klqDecrypt⟩ ]

/-- Whether a word is the row's command. -/
def OpcodeRow.covers (r : OpcodeRow) (w : Word) : Bool := w &&& r.mask == r.pattern

/-- Why a command word is illegal (R72). Both reasons complete as ILLEGAL_COMMAND (R187). -/
inductive DecodeError where
  /-- A bit of 31:8 is not 0, whatever OPCODE holds. -/
  | reservedBits (w : Word)
  /-- Bits 31:8 are 0 and OPCODE is 0x07 .. 0xFF. -/
  | unassignedOpcode (w : Word)
deriving DecidableEq, Repr

/-- The decoder: the row that the whole word equals, else the reason the word is illegal (R72). -/
def decode (w : Word) : Except DecodeError Instr :=
  match opcodeTable.find? (fun r => r.covers w) with
  | some r => .ok r.instr
  | none => .error (if reservedZero w then .unassignedOpcode w else .reservedBits w)

/-- OPCODE of a command (R71). -/
def opcode : Instr → BitVec 8
  | .nop => 0x00#8
  | .configure => 0x01#8
  | .generate => 0x02#8
  | .aesCompare => 0x03#8
  | .klqReceive => 0x04#8
  | .klqEncrypt => 0x05#8
  | .klqDecrypt => 0x06#8

/-- The command word of a command: RSVD = 0 above OPCODE (R70). -/
def encode (i : Instr) : Word := 0#24 ++ opcode i

/-- The command that the decoder reads from a word given by `nbits` bits of the opcode table. Every command is
32 bits long (R70), so a number of more bits is no command word (log entry 15). -/
def decodeTableWord (nbits w : Nat) : Option Instr :=
  if nbits ≤ 32 ∧ w < 2 ^ 32 then
    match decode (BitVec.ofNat 32 w) with
    | .ok i => some i
    | .error _ => none
  else none

end Sys2Proof
end

