-- ==== Sys2Proof/Machine/State.lean ====
section
/-! DEFINITION. The state of the block as plain data (10_state.md rules R20 to R32), of the Host that drives it
(00_scope.md rule R5), the state after reset (R38), and the reasons a step can stop. -/

namespace Sys2Proof.Machine

/-- The selector of the CodeGenerator multiplexer: VARIANT = 0 is AES, 1 is KeeLoq (R24, R133). -/
inductive Variant where
  | aes
  | keeloq
deriving DecidableEq, Repr

/-- The error codes of STATUS.ERRCODE (60_exceptions.md rule R200). Codes 6 to 15 are never produced (log entry 12). -/
inductive ErrorCode where
  | noError
  | illegalCommand
  | notConfigured
  | wrongVariant
  | invalidKeyLength
  | counterOverflow
deriving DecidableEq, Repr

/-- A rolling code of either variant: 128 bits for AES, 32 bits for KeeLoq (R133). -/
inductive Code where
  | aes (c : AesBlock)
  | keeloq (c : KlqBlock)
deriving DecidableEq, Repr

/-- The registers of the window (20_memory.md rule R51). The index of a quad counts from its lowest offset (R52). -/
inductive WindowReg where
  | ctrl
  | cmd
  | status
  | result
  | key (i : Fin 4)
  | payload
  | din (i : Fin 4)
  | dout (i : Fin 4)
  | ctr (i : Fin 4)
deriving DecidableEq, Repr

/-- The width of a bus access. Only `bits32` is performed (R54). -/
inductive AccessWidth where
  | bits8
  | bits16
  | bits32
  | bits64
deriving DecidableEq, Repr

/-- What the Host does to the block (R5, R9, R78, R246). The data of an access that is not 32 bits wide is never
used (R54), so one word of data stands for every width. -/
inductive HostOp where
  | read (offset : Offset) (width : AccessWidth)
  | write (offset : Offset) (width : AccessWidth) (data : Word)
  /-- Read STATUS until a read returns BUSY = 0 (R78). -/
  | poll
  /-- Assert reset (R230). -/
  | reset
deriving DecidableEq, Repr

/-- A command between its issue and its completion: the word in PENDING (R32), and how many Host steps still come
before its completion (the model's own count, log entry 1). -/
structure Pending where
  word : Word
  wait : Nat
deriving DecidableEq, Repr

/-- The state. STATUS.BUSY is the presence of a pending command (R26, R37; log entry 5). -/
structure State where
  /-- CTRL, the staging configuration (R24). -/
  ctrl       : Word
  /-- STATUS.CONFIGURED (R26). -/
  configured : Bool
  /-- STATUS.ERR (R26). -/
  err        : Bool
  /-- STATUS.OVERRUN (R26). -/
  overrun    : Bool
  /-- STATUS.ERRCODE (R26, R200). -/
  errCode    : ErrorCode
  /-- RESULT (R27). -/
  result     : Word
  /-- KEY0..KEY3, the staging key (R28). -/
  key        : Quad
  /-- PAYLOAD, the staging KeeLoq payload (R29). -/
  payload    : Word
  /-- DIN0..DIN3, the operand registers (R22). -/
  din        : Quad
  /-- DOUT0..DOUT3, the result registers (R23). -/
  dout       : Quad
  /-- The receiver counter, shown by CTR0..CTR3 (R30). -/
  ctr        : Counter
  /-- A_KEY (R31). -/
  aKey       : Wide
  /-- A_VARIANT (R31). -/
  aVariant   : Variant
  /-- A_TOL (R31). -/
  aTol       : Tolerance
  /-- A_PAYLOAD (R31). -/
  aPayload   : KlqPayload
  /-- PENDING, while a command is in progress (R32). -/
  pending    : Option Pending
  /-- The Host's accesses that are still to arrive, in arrival order (R58; log entry 7). -/
  host       : List HostOp
  /-- The values the Host's reads have returned, newest first (R78; log entry 7). -/
  reads      : List Word
  /-- How many free values have been drawn (the model's own counter, log entry 4). -/
  draws      : Nat
deriving DecidableEq, Repr

/-- The reasons a step stops for good. -/
inductive Fault where
  /-- A Host access that is not 32 bits wide or not at a multiple of 4 (20_memory.md rule R54). Raised by the Host's
  step (Machine/Bus.lean). The block has changed no state. Safe: the spec itself calls it a fault of the Host program. -/
  | busError (offset : Offset) (width : AccessWidth)
deriving DecidableEq, Repr

/-- The reasons a step has no meaning. -/
inductive Refusal where
  /-- A command with no meaning yet, by its mnemonic. Raised by exec's refused arms only, of which there are none
  now. Safe: the model stops where the block would go on. -/
  | notModelled (mnemonic : String)
deriving DecidableEq, Repr

/-- What a step answers. -/
abbrev Result := Host.Outcome State Fault Refusal

/-- The state right after reset (10_state.md rule R38, 70_reset_and_hazards.md rule R230): CTRL = 0x00050000, everything
else 0, no pair and no command pending. The Host's list is empty: a program comes from outside (log entries 7 and 8). -/
def State.reset : State where
  ctrl := 0#8 ++ Config.tolDefault ++ 0#16
  configured := false
  err := false
  overrun := false
  errCode := .noError
  result := 0#32
  key := ⟨0#32, 0#32, 0#32, 0#32⟩
  payload := 0#32
  din := ⟨0#32, 0#32, 0#32, 0#32⟩
  dout := ⟨0#32, 0#32, 0#32, 0#32⟩
  ctr := 0
  aKey := 0
  aVariant := .aes
  aTol := 0
  aPayload := 0
  pending := none
  host := []
  reads := []
  draws := 0

end Sys2Proof.Machine
end

