-- ==== Sys2Proof/Machine/Operands.lean ====
section
/-! DEFINITION. Bit fields, word order and operand assembly (20_memory.md rules R52, R53; 30_encoding.md rules R74,
R75): which bits of which register each command reads. -/

namespace Sys2Proof.Machine

/-! ### Four words as one value (R9, R52) -/

/-- The 128-bit value of four registers: X0 holds bits 127:96 (R52). -/
def quadWide (q : Quad) : Wide := q.x0 ++ q.x1 ++ q.x2 ++ q.x3

/-- The four registers that hold a 128-bit value (R52). -/
def wideQuad (v : Wide) : Quad where
  x0 := v.extractLsb' 96 32
  x1 := v.extractLsb' 64 32
  x2 := v.extractLsb' 32 32
  x3 := v.extractLsb' 0 32

/-- The register of a quad by its index from the lowest offset. -/
def quadWord (q : Quad) : Fin 4 → Word
  | 0 => q.x0
  | 1 => q.x1
  | 2 => q.x2
  | 3 => q.x3

/-- A quad with one register replaced. -/
def quadSet (q : Quad) (i : Fin 4) (v : Word) : Quad :=
  match i with
  | 0 => { q with x0 := v }
  | 1 => { q with x1 := v }
  | 2 => { q with x2 := v }
  | 3 => { q with x3 := v }

/-- Three zero words and a 32-bit result in X3 (R76). -/
def quadLow (v : Word) : Quad := ⟨0#32, 0#32, 0#32, v⟩

/-- Byte `i` of a 16-byte big-endian code is bits `127-8i : 120-8i` of its 128-bit value (R53). -/
def codeByte (v : Wide) (i : Fin 16) : BitVec 8 := v.extractLsb' (120 - 8 * i) 8

/-- Byte `i` of the 4-byte KeeLoq wire block is bits `31-8i : 24-8i` of the 32-bit code (R53). -/
def klqByte (v : KlqBlock) (i : Fin 4) : BitVec 8 := v.extractLsb' (24 - 8 * i) 8

/-- `parity(v)`: the exclusive-or of all bits of v (R8). -/
def parity {n : Nat} (v : BitVec n) : Bool := (List.range n).foldl (fun p i => p ^^ v.getLsbD i) false

/-! ### Operands of the commands (R75), taken by truncation (R74) -/

/-- DIN, all 128 bits: the counter of an AES GENERATE and the received code of AES_COMPARE (R75). -/
def operandWide (s : State) : Wide := quadWide s.din

/-- DIN3, all 32 bits: the cipher block of KLQ_RECEIVE and the ciphertext of KLQ_DECRYPT (R75). -/
def operandBlock (s : State) : KlqBlock := s.din.x3

/-- DIN3[3:0]: the counter of a KeeLoq GENERATE (R75). -/
def operandGenCounter (s : State) : KlqCounter := s.din.x3.extractLsb' 0 Config.klqCtrW

/-- DIN3[27:0]: the payload of KLQ_ENCRYPT (R75). -/
def operandPayload (s : State) : KlqPayload := s.din.x3.extractLsb' 0 Config.klqPayloadW

/-- DIN2[3:0]: the counter of KLQ_ENCRYPT (R75). -/
def operandCounter (s : State) : KlqCounter := s.din.x2.extractLsb' 0 Config.klqCtrW

/-- KEY, the 128-bit staging key CONFIGURE latches (R28, R75). -/
def operandKey (s : State) : Wide := quadWide s.key

/-- PAYLOAD[27:0], the payload CONFIGURE latches (R75). -/
def operandStagedPayload (s : State) : KlqPayload := s.payload.extractLsb' 0 Config.klqPayloadW

/-- A_KEY[63:0], the KeeLoq master key of the pair (R31). -/
def klqKey (s : State) : KlqKey := s.aKey.extractLsb' 0 Config.klqKeyW

/-- LAST = CTR[3:0], the counter of the last accepted KeeLoq block (R30, R35). -/
def last (s : State) : KlqCounter := s.ctr.extractLsb' 0 Config.klqCtrW

end Sys2Proof.Machine
end

