-- ==== Sys2Proof/Machine/Flags.lean ====
section
/-! DEFINITION. The fields of CTRL, STATUS and RESULT (10_state.md rules R24, R26, R27) and the checks that decide
which error a command raises (60_exceptions.md rules R200 to R204). -/

namespace Sys2Proof.Machine

/-! ### CTRL (R24) -/

/-- CTRL.VARIANT, bit 0 (R24, R77). -/
def ctrlVariant (s : State) : Variant := if s.ctrl.getLsbD 0 then .keeloq else .aes

/-- CTRL.KEYLEN, bits 12:8 (R24). -/
def ctrlKeyLen (s : State) : BitVec 5 := s.ctrl.extractLsb' 8 5

/-- CTRL.TOLERANCE, bits 23:16 (R24). -/
def ctrlTolerance (s : State) : Tolerance := s.ctrl.extractLsb' 16 _

/-- The key length CONFIGURE requires of a variant, in bytes (R77, R182). -/
def requiredKeyBytes : Variant → BitVec 5
  | .aes => Config.aesKeyBytes
  | .keeloq => Config.klqKeyBytes

/-! ### STATUS (R26) -/

/-- STATUS.BUSY: a command has been issued and not completed (R26, R37). -/
def State.busy (s : State) : Bool := s.pending.isSome

/-- The code of an error (R200). -/
def errorBits : ErrorCode → BitVec 4
  | .noError => 0x0#4
  | .illegalCommand => 0x1#4
  | .notConfigured => 0x2#4
  | .wrongVariant => 0x3#4
  | .invalidKeyLength => 0x4#4
  | .counterOverflow => 0x5#4

/-- The bit of a variant (R24). -/
def variantBit : Variant → BitVec 1
  | .aes => 0#1
  | .keeloq => 1#1

/-- STATUS.ACTIVE_VARIANT: A_VARIANT while configured, else 0 (R26). -/
def activeVariant (s : State) : BitVec 1 := if s.configured then variantBit s.aVariant else 0#1

/-- STATUS.ACTIVE_TOL: A_TOL while configured, else 0 (R26). -/
def activeTol (s : State) : Tolerance := if s.configured then s.aTol else 0

/-- The word a read of STATUS returns, from bit 31 down to bit 0 (R26). -/
def statusWord (s : State) : Word :=
  0#8 ++ activeTol s ++ 0#7 ++ activeVariant s ++ errorBits s.errCode ++
    BitVec.ofBool s.overrun ++ BitVec.ofBool s.err ++ BitVec.ofBool s.configured ++ BitVec.ofBool s.busy

/-! ### RESULT (R27) -/

/-- RESULT with ACCEPT in bit 0 and OFFSET in bits 15:8 (R27). -/
def resultWord (accept : Bool) (offset : Tolerance) : Word := 0#16 ++ offset ++ 0#7 ++ BitVec.ofBool accept

/-- RESULT of an accepted code at candidate offset k (R27). -/
def resultAccept (k : Nat) : Word := resultWord true (BitVec.ofNat _ k)

/-- RESULT of a rejected code: ACCEPT and OFFSET are 0 (R27, R155, R165). -/
def resultReject : Word := resultWord false 0

/-- RESULT.ACCEPT (R27). -/
def acceptBit (s : State) : Bool := s.result.getLsbD 0

/-- RESULT.OFFSET (R27). -/
def offsetField (s : State) : Tolerance := s.result.extractLsb' 8 _

/-! ### The checks of a command that needs a pair (R204, steps 2 and 3) -/

/-- The error that stops a command which needs a pair, of the given variant if it needs one: NOT_CONFIGURED before
WRONG_VARIANT (R201, R202, R204). -/
def pairError (need : Option Variant) (s : State) : Option ErrorCode :=
  if s.configured then
    match need with
    | some v => if s.aVariant = v then none else some .wrongVariant
    | none => none
  else some .notConfigured

end Sys2Proof.Machine
end

