-- ==== Sys2Proof/Machine/Ops.lean ====
section
/-! DEFINITION. The named operations on the state: the updates the Engine and the Host make, the issue and the two
ways a command ends (43_control.md rules R180, R184; 60_exceptions.md rule R203), reset, and the register window
(20_memory.md rules R51 to R56). -/

namespace Sys2Proof.Machine

/-! ### Updates of the Engine -/

/-- `STATUS.BUSY <- 0`: the command in progress is over (R184). -/
def State.finish (s : State) : State := { s with pending := none }

/-- `raise E` (R203): ERR and ERRCODE are set and BUSY is cleared, and nothing else changes. This is the whole of
"trap entry" (R209). -/
def State.raise (e : ErrorCode) (s : State) : State :=
  { s with err := true, errCode := e, pending := none }

/-- The issue of a command word (R180): PENDING holds it, BUSY is set, ERR and ERRCODE are cleared. This is the whole
of "trap return" (R209). `wait` is the number of Host steps before the completion (log entry 1). -/
def State.issue (w : Word) (wait : Nat) (s : State) : State :=
  { s with pending := some ⟨w, wait⟩, err := false, errCode := .noError }

/-- DOUT <- four words (R23). -/
def State.setDout (q : Quad) (s : State) : State := { s with dout := q }

/-- RESULT <- a word (R27). -/
def State.setResult (w : Word) (s : State) : State := { s with result := w }

/-- CTR <- a counter value (R30). -/
def State.setCtr (c : Counter) (s : State) : State := { s with ctr := c }

/-- `STATUS.CONFIGURED <- 0`: the block holds no pair (R183). -/
def State.dropPair (s : State) : State := { s with configured := false }

/-- The effect of a successful CONFIGURE (R182): the staging registers are latched, CTR, DOUT and RESULT are cleared. -/
def State.latchPair (s : State) : State :=
  { s with
    aVariant := ctrlVariant s
    aKey := operandKey s
    aTol := ctrlTolerance s
    aPayload := operandStagedPayload s
    ctr := 0
    dout := ⟨0#32, 0#32, 0#32, 0#32⟩
    result := 0#32
    configured := true }

/-- A command that needs a pair: the first error of R204 steps 2 and 3 is raised, else the command's own rule runs. -/
def withPair (need : Option Variant) (s : State) (body : Result) : Result :=
  match pairError need s with
  | some e => .next (s.raise e)
  | none => body

/-! ### Updates of the Host -/

/-- STATUS.OVERRUN <- a bit (R26, R248). -/
def State.setOverrun (b : Bool) (s : State) : State := { s with overrun := b }

/-- A Host write of CTRL stores the bits that exist (R24). -/
def State.storeCtrl (w : Word) (s : State) : State := { s with ctrl := w &&& Config.ctrlMask }

/-- A Host write of one KEY register (R28). -/
def State.storeKey (i : Fin 4) (w : Word) (s : State) : State := { s with key := quadSet s.key i w }

/-- A Host write of PAYLOAD stores bits 27:0 (R29). -/
def State.storePayload (w : Word) (s : State) : State := { s with payload := w &&& Config.klqPayloadMask }

/-- A Host write of one DIN register (R22). -/
def State.storeDin (i : Fin 4) (w : Word) (s : State) : State := { s with din := quadSet s.din i w }

/-- The Host's accesses that are still to arrive. -/
def State.setHost (l : List HostOp) (s : State) : State := { s with host := l }

/-- A read has returned a value. -/
def State.logRead (v : Word) (s : State) : State := { s with reads := v :: s.reads }

/-- A free value has been drawn (log entry 4). -/
def State.draw (s : State) : State := { s with draws := s.draws + 1 }

/-- One Host step of the wait for the completion has passed (log entry 1). -/
def State.tick (s : State) : State :=
  { s with pending := s.pending.map fun p => ⟨p.word, p.wait - 1⟩ }

/-- Reset (R230): every register and hidden field takes its value of R38 and a command in progress is abandoned. What
is not the block's stays: the Host's list, the values it has read, the count of free values (log entries 4 and 7). -/
def State.resetBlock (s : State) : State :=
  { State.reset with host := s.host, reads := s.reads, draws := s.draws }

/-! ### The register window (R51) -/

/-- The register at a word offset; none where nothing is mapped, 0x24..0x2C and 0x60..0xFC (R51, R56). -/
def windowReg (o : Offset) : Option WindowReg :=
  match o.toNat with
  | 0x00 => some .ctrl
  | 0x04 => some .cmd
  | 0x08 => some .status
  | 0x0C => some .result
  | 0x10 => some (.key 0)
  | 0x14 => some (.key 1)
  | 0x18 => some (.key 2)
  | 0x1C => some (.key 3)
  | 0x20 => some .payload
  | 0x30 => some (.din 0)
  | 0x34 => some (.din 1)
  | 0x38 => some (.din 2)
  | 0x3C => some (.din 3)
  | 0x40 => some (.dout 0)
  | 0x44 => some (.dout 1)
  | 0x48 => some (.dout 2)
  | 0x4C => some (.dout 3)
  | 0x50 => some (.ctr 0)
  | 0x54 => some (.ctr 1)
  | 0x58 => some (.ctr 2)
  | 0x5C => some (.ctr 3)
  | _ => none

/-- The offset of a register (R51). -/
def regOffset : WindowReg → Offset
  | .ctrl => 0x00#8
  | .cmd => 0x04#8
  | .status => 0x08#8
  | .result => 0x0C#8
  | .key i => 0x10#8 + BitVec.ofNat 8 (4 * i)
  | .payload => 0x20#8
  | .din i => 0x30#8 + BitVec.ofNat 8 (4 * i)
  | .dout i => 0x40#8 + BitVec.ofNat 8 (4 * i)
  | .ctr i => 0x50#8 + BitVec.ofNat 8 (4 * i)

/-- The address of a register offset on the platform's bus (R50, R78). -/
def busAddress (o : Offset) : Nat := Config.base + o.toNat

/-- The offset of a bus address, if the address lies in the window (R50); an address outside it does not reach the
block (log entry 9). -/
def busOffset (a : Nat) : Option Offset :=
  if Config.base ≤ a ∧ a < Config.base + Config.window then some (BitVec.ofNat 8 (a - Config.base)) else none

/-- What a read of a register returns while BUSY = 0: CMD and KEY read 0 (R25, R28, R55). -/
def readReg (r : WindowReg) (s : State) : Word :=
  match r with
  | .ctrl => s.ctrl
  | .cmd => 0#32
  | .status => statusWord s
  | .result => s.result
  | .key _ => 0#32
  | .payload => s.payload
  | .din i => quadWord s.din i
  | .dout i => quadWord s.dout i
  | .ctr i => quadWord (wideQuad s.ctr) i

/-- What a read of an offset returns while BUSY = 0: an unmapped offset reads 0 (R56). -/
def readWindow (o : Offset) (s : State) : Word :=
  match windowReg o with
  | some r => readReg r s
  | none => 0#32

/-- The registers whose read while BUSY = 1 returns an unspecified value (R59). -/
def volatileReg : WindowReg → Bool
  | .result => true
  | .dout _ => true
  | .ctr _ => true
  | .ctrl => false
  | .cmd => false
  | .status => false
  | .key _ => false
  | .payload => false
  | .din _ => false

/-- Whether a read of this offset returns an unspecified value in this state (R59). -/
def readUnspecified (o : Offset) (s : State) : Bool :=
  s.busy &&
    match windowReg o with
    | some r => volatileReg r
    | none => false

/-- A Host write of a register while BUSY = 0 (R55, R57): a write to CMD issues, a write to STATUS with bit 3 set clears
OVERRUN, a read-only register ignores the write. -/
def writeReg (r : WindowReg) (v : Word) (s : State) : State :=
  match r with
  | .ctrl => s.storeCtrl v
  | .cmd => s.draw.issue v (Config.latency s.draws)
  | .status => if v.getLsbD 3 then s.setOverrun false else s
  | .result => s
  | .key i => s.storeKey i v
  | .payload => s.storePayload v
  | .din i => s.storeDin i v
  | .dout _ => s
  | .ctr _ => s

end Sys2Proof.Machine
end

