-- ==== Sys2Proof/Machine/Bus.lean ====
section
/-! DEFINITION. The Host's step: one bus access, one read of a poll, or one reset (20_memory.md rules R54 to R59;
30_encoding.md rule R78; 70_reset_and_hazards.md rules R230, R248). -/

namespace Sys2Proof.Machine

/-- A well-formed access: 32 bits wide, at a multiple of 4 (R54). -/
def accessWellFormed (o : Offset) (width : AccessWidth) : Bool := width == .bits32 && o.toNat % 4 == 0

/-- A well-formed read (R57, R59): the block is unchanged; the value is the register's, or a free value where the spec
gives none (log entry 2). -/
def busRead (o : Offset) (s : State) : State :=
  if readUnspecified o s then s.draw.logRead (Config.busyRead s.draws)
  else s.logRead (readWindow o s)

/-- A well-formed write: while BUSY = 1 it is ignored and sets OVERRUN (R248); else it writes the register, and an
unmapped offset ignores it (R56). -/
def busWrite (o : Offset) (v : Word) (s : State) : State :=
  if s.busy then s.setOverrun true
  else
    match windowReg o with
    | some r => writeReg r v s
    | none => s

/-- What the Host's next operation does. The state is the one in which the operation has arrived, that is, after it left
the Host's list. A poll whose read returns BUSY = 1 stays at the head of the list (R78). -/
def hostOp (op : HostOp) (s : State) : Result :=
  match op with
  | .read o width => if accessWellFormed o width then .next (busRead o s) else .fault (.busError o width)
  | .write o width v => if accessWellFormed o width then .next (busWrite o v s) else .fault (.busError o width)
  | .poll => .next (if s.busy then s.setHost (.poll :: s.host) else s)
  | .reset => .next s.resetBlock

/-- The Host's step: its next operation arrives; with none left and no command in progress nothing happens (R184, R185;
log entry 13). -/
def hostStep (s : State) : Result :=
  match s.host with
  | [] => .next s
  | op :: rest => hostOp op (s.setHost rest)

end Sys2Proof.Machine
end

