-- ==== Sys2Proof/Machine/Control.lean ====
section
/-! DEFINITION. NOP and CONFIGURE (43_control.md rules R181 to R186). -/

namespace Sys2Proof.Machine

/-- NOP (R186): no effect but the end of BUSY. It needs no pair. -/
def execNop (s : State) : Result := .next s.finish

/-- CONFIGURE (R182): a declared key length that is not the variant's raises INVALID_KEY_LENGTH and leaves no pair
(R183); else the staging registers become the pair. -/
def execConfigure (s : State) : Result :=
  if ctrlKeyLen s = requiredKeyBytes (ctrlVariant s) then .next s.latchPair.finish
  else .next (s.dropPair.raise .invalidKeyLength)

end Sys2Proof.Machine
end

