-- ==== Sys2Proof/Machine/Cipher.lean ====
section
/-! DEFINITION. The KeeloqCipher as pure functions, transcribed from 40_keeloq_cipher.md rules R100 to R107, and the two
commands that expose it (R110, R112). It is the source's own cipher, not the industrial one of that name. -/

namespace Sys2Proof.Machine

/-- `KLQ_Pack(payload, counter)` (R100): the counter's low 4 bits above the payload's low 28 bits. -/
def klqPack (payload counter : Word) : KlqBlock :=
  ((counter &&& Config.klqCtrMask) <<< Config.klqPayloadW) ||| (payload &&& Config.klqPayloadMask)

/-- `KLQ_NLF(rk)` (R101): the exclusive-or of the sixteen taps of the round key. -/
def klqNlf (rk : KlqRoundKey) : Bool := Config.klqTaps.foldl (fun f t => f ^^ rk.getLsbD t) false

/-- `KLQ_RoundKey(K, r)` (R102): the low 32 bits of K shifted right by the key phase `r mod 64`. -/
def klqRoundKey (K : KlqKey) (r : Nat) : KlqRoundKey := (K >>> (r % Config.klqKeyPhaseMod)).setWidth Config.klqRoundKeyW

/-- One bit copied into every position of the block. -/
def klqSpread (f : Bool) : KlqBlock := if f then BitVec.allOnes Config.klqBlockW else 0

/-- `KLQ_Round(b, rk)` (R103): every bit of the block is exclusive-ored with the one bit `KLQ_NLF(rk)`. -/
def klqRound (b : KlqBlock) (rk : KlqRoundKey) : KlqBlock := b ^^^ klqSpread (klqNlf rk)

/-- What the round leaves in the feedback register FB (R103): the zero-extended round key rotated right by one bit,
with output bit 0 of the round in bit 63. No round and no command reads it (R106), so no state holds it (log entry 6). -/
def klqFeedback (rk : KlqRoundKey) (out : KlqBlock) : KlqFeedback :=
  (rk.setWidth Config.klqFeedbackW >>> 1) |||
    ((out.extractLsb' 0 1).setWidth Config.klqFeedbackW <<< Config.klqFeedbackBit)

/-- `KLQ_Encrypt(K, b)` (R104): 528 rounds, round r under the round key of r. -/
def klqEncrypt (K : KlqKey) (b : KlqBlock) : KlqBlock :=
  (List.range Config.klqRounds).foldl (fun b r => klqRound b (klqRoundKey K r)) b

/-- `KLQ_Decrypt(K, b)` (R105): 528 rounds in reverse key order, step j under the round key of `527 - j`. -/
def klqDecrypt (K : KlqKey) (b : KlqBlock) : KlqBlock :=
  (List.range Config.klqRounds).foldl (fun b j => klqRound b (klqRoundKey K (Config.klqRounds - 1 - j))) b

/-- The payload of `KLQ_Unpack(b)`: bits 27:0 (R107). -/
def klqPayloadOf (b : KlqBlock) : KlqPayload := b.extractLsb' 0 Config.klqPayloadW

/-- The counter of `KLQ_Unpack(b)`: bits 31:28 (R107). -/
def klqCounterOf (b : KlqBlock) : KlqCounter := b.extractLsb' Config.klqPayloadW Config.klqCtrW

/-- KLQ_ENCRYPT (R110): DOUT3 takes the ciphertext of the packed payload and counter, DOUT0..2 take 0. -/
def execKlqEncrypt (s : State) : Result :=
  withPair (some .keeloq) s
    (.next (s.setDout (quadLow (klqEncrypt (klqKey s)
      (klqPack ((operandPayload s).setWidth _) ((operandCounter s).setWidth _))))).finish)

/-- KLQ_DECRYPT (R112): DOUT3 takes the payload and DOUT2 the counter of the decrypted block, DOUT0..1 take 0. -/
def execKlqDecrypt (s : State) : Result :=
  withPair (some .keeloq) s
    (.next (s.setDout ⟨0#32, 0#32,
      (klqCounterOf (klqDecrypt (klqKey s) (operandBlock s))).setWidth _,
      (klqPayloadOf (klqDecrypt (klqKey s) (operandBlock s))).setWidth _⟩).finish)

end Sys2Proof.Machine
end

