-- ==== Sys2Proof/Machine/Generator.lean ====
section
/-! DEFINITION. The CodeGenerator multiplexer and the GENERATE command (41_code_generator.md rules R130 to R137). -/

namespace Sys2Proof.Machine

/-- The AES primitive, a function of which nothing is known (R130; log entry 3). -/
def aes128 (key : AesKey) (block : AesBlock) : AesBlock := Config.aes128 key block

/-- `AES_Gen(K, n)` (R131): the code of counter n, for n below 2^128; no value at 2^128 or above. -/
def aesGen (K : AesKey) (n : Nat) : Option AesBlock :=
  if n < Config.aesCtrLimit then some (aes128 K (BitVec.ofNat Config.aesBlockW n)) else none

/-- `KLQ_Gen(K, P, n)` (R132): the encrypted block of the pair's payload and the counter's low four bits. -/
def klqGen (K : KlqKey) (P : KlqPayload) (n : Nat) : KlqBlock :=
  klqEncrypt K (klqPack (P.setWidth Config.klqBlockW) (BitVec.ofNat Config.klqBlockW n &&& Config.klqCtrMask))

/-- `Gen(n)` (R133): the code of counter n under the active configuration, selected by A_VARIANT; n is below 2^128. -/
def gen (s : State) (n : Counter) : Code :=
  match s.aVariant with
  | .aes => .aes (aes128 s.aKey n)
  | .keeloq => .keeloq (klqGen (klqKey s) s.aPayload n.toNat)

/-- Where DOUT holds a code (R76): all four words for AES, DOUT3 alone for KeeLoq. -/
def codeQuad : Code → Quad
  | .aes c => wideQuad c
  | .keeloq c => quadLow c

/-- The counter operand of GENERATE (R75): DIN for AES, DIN3[3:0] for KeeLoq. -/
def generateCounter (s : State) : Counter :=
  match s.aVariant with
  | .aes => operandWide s
  | .keeloq => (operandGenCounter s).setWidth _

/-- GENERATE (R136): DOUT takes the pair's code for the counter the Host supplies; no variant is refused. -/
def execGenerate (s : State) : Result :=
  withPair none s (.next (s.setDout (codeQuad (gen s (generateCounter s)))).finish)

end Sys2Proof.Machine
end

