-- ==== Sys2Proof/Machine/Matcher.lean ====
section
/-! DEFINITION. The RollingCodeMatcher: AES_COMPARE and KLQ_RECEIVE (42_rolling_matcher.md rules R150 to R169). -/

namespace Sys2Proof.Machine

/-- The least offset k in 0..tol at which a candidate matches (R153, R161). -/
def leastOffset (tol : Tolerance) (matched : Nat → Bool) : Option Nat :=
  (List.range (tol.toNat + 1)).find? matched

/-- `W[k]`, the code of candidate k of the AES window (R151): of counter `CTR + k` as a mathematical integer; absent
when that is 2^128 or more (R152). -/
def aesCandidate (key : AesKey) (ctr : Counter) (k : Nat) : Option AesBlock := aesGen key (ctr.toNat + k)

/-- The smallest present k with `W[k] = R` (R153). -/
def aesMatch (key : AesKey) (ctr : Counter) (tol : Tolerance) (r : AesBlock) : Option Nat :=
  leastOffset tol fun k => aesCandidate key ctr k = some r

/-- AES_COMPARE (R155): a match at offset k advances CTR to `CTR + k + 1`, or raises COUNTER_OVERFLOW where that is
2^128 (R157); no match rejects and leaves CTR as it was (R156). -/
def execAesCompare (s : State) : Result :=
  withPair (some .aes) s
    (match aesMatch s.aKey s.ctr s.aTol (operandWide s) with
     | some k =>
       if s.ctr.toNat + k + 1 = Config.aesCtrLimit then .next (s.raise .counterOverflow)
       else .next ((s.setCtr (BitVec.ofNat _ (s.ctr.toNat + k + 1))).setResult (resultAccept k)).finish
     | none => .next (s.setResult resultReject).finish)

/-- Candidate i of the KeeLoq window, `(LAST + i) mod 16` (R161). -/
def klqCandidate (lst : KlqCounter) (i : Nat) : KlqCounter := lst + BitVec.ofNat Config.klqCtrW i

/-- The first i in 0..tol whose candidate is the extracted counter (R161). -/
def klqMatch (lst : KlqCounter) (tol : Tolerance) (ec : KlqCounter) : Option Nat :=
  leastOffset tol fun i => ec = klqCandidate lst i

/-- CTR with CTR[3:0] replaced (R165). -/
def setLast (ctr : Counter) (c : KlqCounter) : Counter := ctr.extractLsb' Config.klqCtrW _ ++ c

/-- The received block, decrypted once and unconditionally (R160). -/
def receivedBlock (s : State) : KlqBlock := klqDecrypt (klqKey s) (operandBlock s)

/-- KLQ_RECEIVE (R165): a block whose counter is in the window is accepted and its counter becomes LAST; no match
rejects with DOUT = 0 and leaves CTR as it was (R162). -/
def execKlqReceive (s : State) : Result :=
  withPair (some .keeloq) s
    (match klqMatch (last s) s.aTol (klqCounterOf (receivedBlock s)) with
     | some i =>
       .next (((s.setDout (quadLow ((klqPayloadOf (receivedBlock s)).setWidth _))).setCtr
         (setLast s.ctr (klqCounterOf (receivedBlock s)))).setResult (resultAccept i)).finish
     | none => .next ((s.setDout (quadLow 0)).setResult resultReject).finish)

end Sys2Proof.Machine
end

