-- ==== Sys2Proof/Machine/Dispatch.lean ====
section
/-! DEFINITION. The dispatch of a decoded command to its meaning: one arm per constructor. -/

namespace Sys2Proof.Machine

def exec (i : Instr) (s : State) : Host.Outcome State Fault Refusal :=
  match i with
  | .nop => Sys2Proof.Machine.execNop s
  | .configure => Sys2Proof.Machine.execConfigure s
  | .generate => Sys2Proof.Machine.execGenerate s
  | .aesCompare => Sys2Proof.Machine.execAesCompare s
  | .klqReceive => Sys2Proof.Machine.execKlqReceive s
  | .klqEncrypt => Sys2Proof.Machine.execKlqEncrypt s
  | .klqDecrypt => Sys2Proof.Machine.execKlqDecrypt s

end Sys2Proof.Machine
end

