-- ==== Sys2Proof/Machine/Engine.lean ====
section
/-! DEFINITION. The Engine's step and the choice of who moves next (43_control.md rules R184, R185). -/

namespace Sys2Proof.Machine

/-- The completion of a command word (R184): the decoded command's rule, or ILLEGAL_COMMAND (R187, R204 step 1). -/
def completeWord (w : Word) (s : State) : Result :=
  match decode w with
  | .ok i => exec i s
  | .error _ => .next (s.raise .illegalCommand)

/-- Whether the Engine moves next: its wait is over, or the Host has nothing left to do (R184; log entry 1). -/
def engineMoves (p : Pending) (s : State) : Bool := p.wait == 0 || s.host.isEmpty

/-- One step of the two agents (R5): the completion of the pending command, or one Host step, which brings the
completion one step nearer. -/
def agentStep (s : State) : Result :=
  match s.pending with
  | some p => if engineMoves p s then completeWord p.word s else hostStep s.tick
  | none => hostStep s

/-- The command word given by `nbits` bits of the opcode table, in progress, with its completion as the very next step:
the state right after its issue (R180; log entry 8). -/
def issueNow (s : State) (_nbits w : Nat) : State := s.issue (BitVec.ofNat 32 w) 0

end Sys2Proof.Machine
end

