-- ==== Sys2Proof/Machine/Step.lean ====
section
/-! DEFINITION. One step of the machine, and how a command is placed for the next step. -/

namespace Sys2Proof.Machine

/-- One step of the machine (00_scope.md rule R5; 43_control.md rule R184). -/
def step (s : State) : Host.Outcome State Fault Refusal := agentStep s

/-- The block has no program counter (10_state.md rule R21): the next command runs from PENDING, so placing a word means
issuing it with its completion due (log entry 8). -/
def State.withFetchWord (s : State) (nbits w : Nat) : State := issueNow s nbits w

end Sys2Proof.Machine
end

