-- ==== Sys2Proof/Machine/Asm.lean ====
section
/-! DEFINITION. The host assembly of 30_encoding.md rules R78 and R79: each line as the bus transactions it stands for.
It is no part of the block (92_eei_decisions.md D37); it writes the Host's list. -/

namespace Sys2Proof.Machine.Asm

/-- `wr REG, imm32` (R78). -/
def wr (r : WindowReg) (v : Word) : List HostOp := [.write (regOffset r) .bits32 v]

/-- `rd REG` (R78). -/
def rd (r : WindowReg) : List HostOp := [.read (regOffset r) .bits32]

/-- `poll` (R78). -/
def poll : List HostOp := [.poll]

/-- `cmd MNEMONIC`: a write of the command's word to CMD (R78). -/
def cmd (i : Instr) : List HostOp := wr .cmd (encode i)

/-- `exec MNEMONIC` (R79). -/
def exec (i : Instr) : List HostOp := cmd i ++ poll

/-- `setctrl v, n, t` (R79). -/
def setctrl (v n t : Word) : List HostOp := wr .ctrl ((t <<< 16) ||| (n <<< 8) ||| v)

/-- `setkey128 K` (R79). -/
def setkey128 (K : Wide) : List HostOp :=
  wr (.key 0) (K.extractLsb' 96 32) ++ wr (.key 1) (K.extractLsb' 64 32) ++
    wr (.key 2) (K.extractLsb' 32 32) ++ wr (.key 3) (K.extractLsb' 0 32)

/-- `setkey64 K` (R79). -/
def setkey64 (K : KlqKey) : List HostOp := wr (.key 2) (K.extractLsb' 32 32) ++ wr (.key 3) (K.extractLsb' 0 32)

/-- `setdin V` (R79). -/
def setdin (V : Wide) : List HostOp :=
  wr (.din 0) (V.extractLsb' 96 32) ++ wr (.din 1) (V.extractLsb' 64 32) ++
    wr (.din 2) (V.extractLsb' 32 32) ++ wr (.din 3) (V.extractLsb' 0 32)

/-- `clroverrun` (R79). -/
def clroverrun : List HostOp := wr .status 0x00000008#32

end Sys2Proof.Machine.Asm
end

