-- ==== Sys2Proof/Safety.lean ====
section
/-! DEFINITION. What a run is and what holds along it: the states a run reaches (70_reset_and_hazards.md rule R231), its end
(R251), the invariants of 10_state.md rule R37, the Host's well-formed accesses (20_memory.md rule R54), and the named
properties of AES128 that a claim may take as a hypothesis (41_code_generator.md rules R130, R135). -/

namespace Sys2Proof.Machine

/-- The invariants of R37, with those of R27, R180 and R203 that belong to them. BUSY = 1 exactly when a command has been
issued and not completed holds by the definition of `State.busy` (log entry 5). -/
structure Inv (s : State) : Prop where
  /-- CTRL bits 7:1, 15:13 and 31:24 are 0 (R24, R37). -/
  ctrlReserved : s.ctrl &&& 0xFF00E0FE#32 = 0#32
  /-- PAYLOAD bits 31:28 are 0 (R29, R37). -/
  payloadReserved : s.payload &&& 0xF0000000#32 = 0#32
  /-- STATUS bits 15:9 and 31:24 are 0 (R26, R37). -/
  statusReserved : statusWord s &&& 0xFF00FE00#32 = 0#32
  /-- RESULT bits 7:1 and 31:16 are 0 (R27). -/
  resultReserved : s.result &&& 0xFFFF00FE#32 = 0#32
  /-- ERR = 0 implies ERRCODE = 0 (R26, R37). -/
  noErrorNoCode : s.err = false → s.errCode = .noError
  /-- ERR = 1 comes with a code of R200 (R203). -/
  errorHasCode : s.err = true → s.errCode ≠ .noError
  /-- ERR was cleared at the issue of the command in progress (R180). -/
  busyNoError : s.busy = true → s.err = false
  /-- In a configured KeeLoq pair CTR[127:4] = 0 (R30, R37). -/
  klqCounterHigh : s.configured = true → s.aVariant = .keeloq → s.ctr.extractLsb' 4 124 = 0#124
  /-- OFFSET is 0 after a rejection (R27). -/
  rejectedOffset : acceptBit s = false → offsetField s = 0#8

/-- The states a run reaches: it starts from the reset state with some Host program still to come (R231; log entry 8), and
goes on by steps. -/
inductive Reachable : State → Prop where
  | start (program : List HostOp) : Reachable (State.reset.setHost program)
  | step {s t : State} : Reachable s → Sys2Proof.Machine.step s = .next t → Reachable t

/-- `n` steps, stopping at the first fault or refusal: the host interface's run of the machine, on the model's own types
(Laws/Steps.lean proves the two equal). -/
def run : Nat → State → Result
  | 0, s => .next s
  | n + 1, s =>
    match Sys2Proof.Machine.step s with
    | .next t => run n t
    | .fault r => .fault r
    | .refused r => .refused r

/-- The end of a run: the Host program is finished and no command is in progress (R251). -/
def Final (s : State) : Prop := s.host = [] ∧ s.busy = false

/-- A Host operation that is no malformed access (R54). -/
def opWellFormed : HostOp → Bool
  | .read o w => accessWellFormed o w
  | .write o w _ => accessWellFormed o w
  | .poll => true
  | .reset => true

/-- Every access the Host has still to make is well formed (R54). -/
def HostWellFormed (s : State) : Prop := ∀ op ∈ s.host, opWellFormed op = true

/-- The commands that need a pair (R201). -/
def needsPair : Instr → Bool
  | .nop => false
  | .configure => false
  | .generate => true
  | .aesCompare => true
  | .klqReceive => true
  | .klqEncrypt => true
  | .klqDecrypt => true

/-- The variant a command needs, if it needs one (R71, R202). -/
def neededVariant : Instr → Option Variant
  | .nop => none
  | .configure => none
  | .generate => none
  | .aesCompare => some .aes
  | .klqReceive => some .keeloq
  | .klqEncrypt => some .keeloq
  | .klqDecrypt => some .keeloq

/-- A named property of AES128 (R135): under a fixed key, distinct counters give distinct codes. Never assumed by the
model; a claim may take it as a hypothesis. -/
def Aes128Injective : Prop := ∀ k : AesKey, Function.Injective (aes128 k)

/-- A named property of AES128 (R130): a known-answer vector. Never assumed by the model. -/
def Aes128KnownAnswer (key : AesKey) (block code : AesBlock) : Prop := aes128 key block = code

end Sys2Proof.Machine
end

