-- ==== Sys2Proof/Certificates/Slice0/Obligations.lean ====
section
/-! DEFINITION. The statements about the model, from the numbered rules of spec/. None of them rests on the value of
`draws`, of `pending.wait` or of a constant of Config that has no body. -/

open Sys2Proof Sys2Proof.Machine

/-! ### Encoding (30_encoding.md) -/

/-- 30_encoding.md section 1: the seven command words of the opcode map, written out, and illegal neighbours of them. That
the decoder gives a reason, which two there are, and that a reserved bit comes first, is the model's (log entry 14). -/
def Obligations.OpcodeMapIsDecoded : Prop :=
  decode 0x00000000#32 = .ok .nop ∧
  decode 0x00000001#32 = .ok .configure ∧
  decode 0x00000002#32 = .ok .generate ∧
  decode 0x00000003#32 = .ok .aesCompare ∧
  decode 0x00000004#32 = .ok .klqReceive ∧
  decode 0x00000005#32 = .ok .klqEncrypt ∧
  decode 0x00000006#32 = .ok .klqDecrypt ∧
  decode 0x00000007#32 = .error (.unassignedOpcode 0x00000007#32) ∧
  decode 0x00000107#32 = .error (.reservedBits 0x00000107#32) ∧
  decode 0x00000101#32 = .error (.reservedBits 0x00000101#32)

/-- Decoding the encoding of any command gives the command back, and the encoding is a well-formed word. -/
def Obligations.DecodeInvertsEncode : Prop :=
  ∀ i : Instr, i.wellFormed = true ∧ wordWellFormed (encode i) = true ∧ decode (encode i) = .ok i

/-- R72: all 32 bits are compared; a word is legal exactly if bits 31:8 are 0 and OPCODE is at most 6; the completion of
any other word raises ILLEGAL_COMMAND and has no other effect. -/
def Obligations.WholeWordIsDecoded : Prop :=
  ∀ w : Word,
    (∀ i : Instr, decode w = .ok i ↔ w = encode i) ∧
    ((∃ i : Instr, decode w = .ok i) ↔ w.extractLsb' 8 24 = 0#24 ∧ (w.extractLsb' 0 8).toNat ≤ 6) ∧
    ((∀ i : Instr, w ≠ encode i) → ∀ s : State,
      completeWord w s = .next { s with err := true, errCode := .illegalCommand, pending := none })

/-! ### Steps, issue and completion (43_control.md, 70_reset_and_hazards.md) -/

/-- A step runs the decoded command (the count of Host steps is the model's, log entry 1): when the completion of the pending command is due, the step is exec of the command
its word decodes to, or ILLEGAL_COMMAND; when it is not due, the next Host operation arrives and the completion comes one
Host step nearer; with no command in progress the next Host operation arrives. -/
def Obligations.StepRunsThePendingCommand : Prop :=
  (∀ (s : State) (p : Pending) (i : Instr), s.pending = some p → (p.wait = 0 ∨ s.host = []) →
    decode p.word = .ok i → step s = exec i s) ∧
  (∀ (s : State) (p : Pending) (e : DecodeError), s.pending = some p → (p.wait = 0 ∨ s.host = []) →
    decode p.word = .error e →
    step s = .next { s with err := true, errCode := .illegalCommand, pending := none }) ∧
  (∀ (s : State) (p : Pending) (op : HostOp) (rest : List HostOp), s.pending = some p → p.wait ≠ 0 →
    s.host = op :: rest →
    step s = hostOp op { s with host := rest, pending := some ⟨p.word, p.wait - 1⟩ }) ∧
  (∀ (s : State) (op : HostOp) (rest : List HostOp), s.pending = none → s.host = op :: rest →
    step s = hostOp op { s with host := rest })

/-- R180: a write to CMD while BUSY = 0 issues the word, whatever it is, and changes nothing else of the block; while
BUSY = 1 it does not issue. What the model keeps beside the block (the Host's list, the counts of log entries 1 and 4) is
left open here. -/
def Obligations.CmdWriteIssues : Prop :=
  (∀ (s : State) (w : Word) (rest : List HostOp), s.busy = false →
    s.host = .write 0x04#8 .bits32 w :: rest →
    ∃ (t : State) (n : Nat), step s = .next t ∧
      t = { s with pending := some ⟨w, n⟩, err := false, errCode := .noError, host := t.host, draws := t.draws }) ∧
  (∀ (s : State) (w : Word), s.busy = true → hostOp (.write 0x04#8 .bits32 w) s = .next { s with overrun := true })

/-- R184: when the completion is due, the Engine's step answers a next state, whatever the command word and the state are;
BUSY is 0 in it and no Host operation has been consumed. -/
def Obligations.CompletionEndsBusy : Prop :=
  ∀ (s : State) (p : Pending), s.pending = some p → (p.wait = 0 ∨ s.host = []) →
    ∃ t : State, step s = .next t ∧ t.busy = false ∧ t.host = s.host ∧ t.reads = s.reads

/-- Every issued command completes after finitely many steps (the weak fairness of 43_control.md R184, by the model's
count of log entry 1), whatever well-formed accesses the Host makes meanwhile, if it does not reset the block: some steps
lead to a state with the same command word and operands whose step is that word's completion. With a reset among the Host's
operations BUSY ends as well, by the completion or by the reset that abandons the command (R230). -/
def Obligations.EveryIssuedCommandCompletes : Prop :=
  (∀ (s : State) (p : Pending), s.pending = some p → HostWellFormed s → HostOp.reset ∉ s.host →
    ∃ (n : Nat) (u t : State) (q : Pending), n ≤ p.wait ∧ run n s = .next u ∧ u.pending = some q ∧ q.word = p.word ∧
      u = { s with overrun := u.overrun, pending := u.pending, host := u.host, reads := u.reads, draws := u.draws } ∧
      step u = completeWord p.word u ∧ completeWord p.word u = .next t ∧ t.busy = false) ∧
  (∀ (s : State) (p : Pending), s.pending = some p → HostWellFormed s →
    ∃ (n : Nat) (t : State), n ≤ p.wait + 1 ∧ run n s = .next t ∧ t.busy = false)

/-- Every Host program of well-formed accesses runs to its end from every state: nothing halts the block and every poll
ends (60_exceptions.md R207 and 43_control.md R184, by the model's count of log entry 1). -/
def Obligations.EveryRunEnds : Prop :=
  ∀ s : State, HostWellFormed s → ∃ (n : Nat) (t : State), run n s = .next t ∧ Final t

/-- Only a malformed access of the Host stops the machine, and nothing is refused (R54, R207). -/
def Obligations.OnlyMalformedAccessesStop : Prop :=
  (∀ (s : State) (r : Refusal), step s ≠ .refused r) ∧
  (∀ (s : State) (o : Offset) (width : AccessWidth), step s = .fault (.busError o width) →
    ¬ (width = .bits32 ∧ o.toNat % 4 = 0) ∧
    ∃ rest : List HostOp, s.host = .read o width :: rest ∨ ∃ v : Word, s.host = .write o width v :: rest)

/-- R61: while BUSY stays 1 the command word and everything a command reads stay as they are (nothing but OVERRUN, the
Host's list and the model's counts changes), so a command's operands at completion are those at its issue; and a write of
DIN, KEY, CTRL or PAYLOAD after a completion leaves that command's results alone. -/
def Obligations.OperandsAreThoseAtIssue : Prop :=
  (∀ (s t : State) (p q : Pending), step s = .next t → s.pending = some p → t.pending = some q →
    q.word = p.word ∧
    t = { s with overrun := t.overrun, pending := t.pending, host := t.host, reads := t.reads, draws := t.draws }) ∧
  (∀ (s : State) (o : Offset) (v : Word), s.busy = false →
    o ∈ [0x00#8, 0x10#8, 0x14#8, 0x18#8, 0x1C#8, 0x20#8, 0x30#8, 0x34#8, 0x38#8, 0x3C#8] →
    ∃ t : State, hostOp (.write o .bits32 v) s = .next t ∧
      t.dout = s.dout ∧ t.result = s.result ∧ t.ctr = s.ctr ∧ statusWord t = statusWord s)

/-! ### NOP and CONFIGURE (43_control.md) -/

/-- R186: NOP, the word 0, completes with no effect other than the end of BUSY. -/
def Obligations.NopOnlyEndsBusy : Prop :=
  decode 0x00000000#32 = .ok .nop ∧ ∀ s : State, exec .nop s = .next { s with pending := none }

/-- R182: CONFIGURE with the variant's key length latches the pair and clears CTR, DOUT and RESULT; with another key
length it raises INVALID_KEY_LENGTH and clears CONFIGURED. -/
def Obligations.ConfigureLatchesThePair : Prop :=
  decode 0x00000001#32 = .ok .configure ∧ ∀ s : State,
    (s.ctrl.extractLsb' 8 5 = (if s.ctrl.getLsbD 0 then 8#5 else 16#5) →
      exec .configure s = .next { s with
        aVariant := if s.ctrl.getLsbD 0 then .keeloq else .aes
        aKey := s.key.x0 ++ s.key.x1 ++ s.key.x2 ++ s.key.x3
        aTol := s.ctrl.extractLsb' 16 8
        aPayload := s.payload.extractLsb' 0 28
        ctr := 0#128
        dout := ⟨0#32, 0#32, 0#32, 0#32⟩
        result := 0#32
        configured := true
        pending := none }) ∧
    (s.ctrl.extractLsb' 8 5 ≠ (if s.ctrl.getLsbD 0 then 8#5 else 16#5) →
      exec .configure s = .next { s with
        configured := false, err := true, errCode := .invalidKeyLength, pending := none })

/-- R183: after a CONFIGURE that raises INVALID_KEY_LENGTH the block has no pair: STATUS.CONFIGURED and ACTIVE_* read 0,
the old configuration, CTR, DOUT and RESULT keep their values, and every command that needs a pair raises
NOT_CONFIGURED. -/
def Obligations.FailedConfigureLeavesNoPair : Prop :=
  ∀ s : State, s.ctrl.extractLsb' 8 5 ≠ (if s.ctrl.getLsbD 0 then 8#5 else 16#5) →
    ∃ t : State, exec .configure s = .next t ∧
      t.err = true ∧ t.errCode = .invalidKeyLength ∧
      t.configured = false ∧ (statusWord t).getLsbD 1 = false ∧ (statusWord t).getLsbD 8 = false ∧
      (statusWord t).extractLsb' 16 8 = 0#8 ∧
      t.aKey = s.aKey ∧ t.aVariant = s.aVariant ∧ t.aTol = s.aTol ∧ t.aPayload = s.aPayload ∧
      t.ctr = s.ctr ∧ t.dout = s.dout ∧ t.result = s.result ∧
      ∀ i : Instr, i ∈ [Instr.generate, .aesCompare, .klqReceive, .klqEncrypt, .klqDecrypt] →
        ∀ u : State, u.configured = t.configured →
          exec i u = .next { u with err := true, errCode := .notConfigured, pending := none }

/-- The active configuration changes only by the completion of CONFIGURE or by reset (10_state.md section 4), and a block
with no pair gets one only by a CONFIGURE whose declared key length is the variant's (70_reset_and_hazards.md section
1). -/
def Obligations.OnlyConfigureChangesThePair : Prop :=
  (∀ s t : State, step s = .next t →
    (t.aKey = s.aKey ∧ t.aVariant = s.aVariant ∧ t.aTol = s.aTol ∧ t.aPayload = s.aPayload ∧
      t.configured = s.configured) ∨
    (∃ p : Pending, s.pending = some p ∧ (p.wait = 0 ∨ s.host = []) ∧ decode p.word = .ok .configure ∧
      exec .configure s = .next t ∧ t.busy = false) ∨
    (∃ rest : List HostOp, s.host = .reset :: rest ∧ (∀ p : Pending, s.pending = some p → p.wait ≠ 0) ∧
      t = { State.reset with host := rest, reads := t.reads, draws := t.draws })) ∧
  (∀ s t : State, step s = .next t → s.configured = false → t.configured = true →
    ∃ p : Pending, s.pending = some p ∧ decode p.word = .ok .configure ∧
      s.ctrl.extractLsb' 8 5 = (if s.ctrl.getLsbD 0 then 8#5 else 16#5))

/-! ### Errors (60_exceptions.md) -/

/-- R201: without a pair the five commands that need one raise NOT_CONFIGURED; CONFIGURE, NOP and illegal words never
do. -/
def Obligations.NotConfiguredIsRaised : Prop :=
  (∀ (i : Instr) (s : State), i ∈ [Instr.generate, .aesCompare, .klqReceive, .klqEncrypt, .klqDecrypt] →
    s.configured = false →
    exec i s = .next { s with err := true, errCode := .notConfigured, pending := none }) ∧
  (∀ (w : Word) (s t : State), (w = 0x00000000#32 ∨ w = 0x00000001#32 ∨ wordWellFormed w = false) →
    s.errCode = .noError → completeWord w s = .next t → t.errCode ≠ .notConfigured)

/-- R202: a command of the other variant raises WRONG_VARIANT; GENERATE never does. -/
def Obligations.WrongVariantIsRaised : Prop :=
  (∀ s : State, s.configured = true → s.aVariant = .keeloq →
    exec .aesCompare s = .next { s with err := true, errCode := .wrongVariant, pending := none }) ∧
  (∀ (i : Instr) (s : State), i ∈ [Instr.klqReceive, .klqEncrypt, .klqDecrypt] →
    s.configured = true → s.aVariant = .aes →
    exec i s = .next { s with err := true, errCode := .wrongVariant, pending := none }) ∧
  (∀ s t : State, s.errCode = .noError → exec .generate s = .next t → t.errCode ≠ .wrongVariant)

/-- R203: an error completion sets ERR and ERRCODE, ends BUSY and changes nothing else; INVALID_KEY_LENGTH of CONFIGURE
alone also clears CONFIGURED. -/
def Obligations.ErrorsArePrecise : Prop :=
  ∀ (w : Word) (s t : State), s.err = false → completeWord w s = .next t → t.err = true →
    (t = { s with err := true, errCode := t.errCode, pending := none } ∧ t.errCode ≠ .noError ∧
      t.errCode ≠ .invalidKeyLength) ∨
    (decode w = .ok .configure ∧
      t = { s with configured := false, err := true, errCode := .invalidKeyLength, pending := none })

/-- R204: the checks in their order, the first that applies is raised, the command's own error last; a write while BUSY
and a malformed access never show in ERRCODE. -/
def Obligations.ErrorPriority : Prop :=
  (∀ (w : Word) (s t : State), s.err = false → s.errCode = .noError → completeWord w s = .next t →
    ((∀ i : Instr, decode w ≠ .ok i) → t.errCode = .illegalCommand) ∧
    (∀ i : Instr, decode w = .ok i → needsPair i = true → s.configured = false → t.errCode = .notConfigured) ∧
    (∀ (i : Instr) (v : Variant), decode w = .ok i → s.configured = true → neededVariant i = some v →
      s.aVariant ≠ v → t.errCode = .wrongVariant) ∧
    (∀ i : Instr, decode w = .ok i → (needsPair i = true → s.configured = true) →
      (∀ v : Variant, neededVariant i = some v → s.aVariant = v) →
      (i = .configure → t.errCode =
        if s.ctrl.extractLsb' 8 5 = (if s.ctrl.getLsbD 0 then 8#5 else 16#5) then .noError else .invalidKeyLength) ∧
      (i = .aesCompare →
        ((∃ k : Nat, k ≤ s.aTol.toNat ∧ s.ctr.toNat + k = 2 ^ 128 - 1 ∧
          ∀ j : Nat, j ≤ k →
            (aes128 s.aKey (BitVec.ofNat 128 (s.ctr.toNat + j)) = quadWide s.din ↔ j = k)) →
          t.errCode = .counterOverflow) ∧
        (t.errCode = .noError ∨ t.errCode = .counterOverflow)) ∧
      (i ≠ .configure → i ≠ .aesCompare → t.errCode = .noError))) ∧
  (∀ (o : Offset) (v : Word) (s t : State), s.busy = true → hostOp (.write o .bits32 v) s = .next t →
    t.errCode = s.errCode) ∧
  (∀ (o : Offset) (width : AccessWidth) (v : Word) (s : State), ¬ (width = .bits32 ∧ o.toNat % 4 = 0) →
    hostOp (.read o width) s = .fault (.busError o width) ∧ hostOp (.write o width v) s = .fault (.busError o width))

/-- R168: a rejecting AES_COMPARE or KLQ_RECEIVE, and any command that raises an error, leaves the receiver's counter, and
with it LAST and the AES window, as it was. -/
def Obligations.RejectionLeavesTheReceiver : Prop :=
  ∀ (i : Instr) (s t : State), s.err = false → exec i s = .next t →
    ((i ∈ [Instr.aesCompare, .klqReceive] ∧ acceptBit t = false) ∨ t.err = true) →
    t.ctr = s.ctr ∧ last t = last s ∧ t.aTol = s.aTol ∧
      ∀ k : Nat, aesCandidate t.aKey t.ctr k = aesCandidate s.aKey s.ctr k

/-! ### The KeeloqCipher (40_keeloq_cipher.md) -/

/-- R100: KLQ_Pack puts the counter's low 4 bits above the payload's low 28 bits and discards the other bits. -/
def Obligations.PackPlacesCounterAndPayload : Prop :=
  ∀ p c : Word, klqPack p c = c.extractLsb' 0 4 ++ p.extractLsb' 0 28

/-- R101: KLQ_NLF is the exclusive-or of the sixteen taps, that is, the parity of the masked round key. -/
def Obligations.NlfIsTheParityOfTheTaps : Prop :=
  ∀ rk : KlqRoundKey,
    klqNlf rk = (rk.getLsbD 0 ^^ rk.getLsbD 2 ^^ rk.getLsbD 3 ^^ rk.getLsbD 5 ^^ rk.getLsbD 7 ^^ rk.getLsbD 10 ^^
      rk.getLsbD 11 ^^ rk.getLsbD 13 ^^ rk.getLsbD 14 ^^ rk.getLsbD 15 ^^ rk.getLsbD 17 ^^ rk.getLsbD 19 ^^
      rk.getLsbD 22 ^^ rk.getLsbD 24 ^^ rk.getLsbD 26 ^^ rk.getLsbD 28) ∧
    klqNlf rk = parity (rk &&& 0x154AECAD#32)

/-- R102: bit i of the round key of round r is bit `r mod 64 + i` of the master key, and 0 where that is past bit 63. -/
def Obligations.RoundKeyIsAShiftOfTheMasterKey : Prop :=
  ∀ (K : KlqKey) (r : Nat),
    klqRoundKey K r = (K >>> (r % 64)).setWidth 32 ∧
    (∀ i : Nat, i < 32 → r % 64 + i < 64 → (klqRoundKey K r).getLsbD i = K.getLsbD (r % 64 + i)) ∧
    (∀ i : Nat, i < 32 → 64 ≤ r % 64 + i → (klqRoundKey K r).getLsbD i = false) ∧
    (r % 64 = 63 → klqRoundKey K r = (K.extractLsb' 63 1).setWidth 32)

/-- R103: a round exclusive-ors every bit of the block with KLQ_NLF of the round key; the feedback register takes the
round key rotated right by one bit with output bit 0 in bit 63. -/
def Obligations.RoundXorsOneBitIntoEveryBit : Prop :=
  ∀ (b : KlqBlock) (rk : KlqRoundKey),
    (∀ i : Nat, i < 32 → (klqRound b rk).getLsbD i = (b.getLsbD i ^^ klqNlf rk)) ∧
    (∀ i : Nat, i < 63 → (klqFeedback rk (klqRound b rk)).getLsbD i = (rk.setWidth 64).getLsbD (i + 1)) ∧
    (klqFeedback rk (klqRound b rk)).getLsbD 63 = (klqRound b rk).getLsbD 0

/-- R104, R105: encryption and decryption are the 528 rounds, in order and in reverse key order. -/
def Obligations.SchedulesRunEveryRoundInOrder : Prop :=
  ∀ (K : KlqKey) (b : KlqBlock),
    (∃ x : Nat → KlqBlock, x 0 = b ∧ x 528 = klqEncrypt K b ∧
      ∀ r : Nat, r < 528 → x (r + 1) = klqRound (x r) (klqRoundKey K r)) ∧
    (∃ y : Nat → KlqBlock, y 0 = b ∧ y 528 = klqDecrypt K b ∧
      ∀ j : Nat, j < 528 → y (j + 1) = klqRound (y j) (klqRoundKey K (527 - j)))

/-- R107: KLQ_Unpack gives bits 27:0 and 31:28, and undoes KLQ_Pack. -/
def Obligations.UnpackSplitsTheBlock : Prop :=
  (∀ b : KlqBlock, klqPayloadOf b = b.extractLsb' 0 28 ∧ klqCounterOf b = b.extractLsb' 28 4 ∧
    klqCounterOf b ++ klqPayloadOf b = b) ∧
  (∀ (p : KlqPayload) (c : KlqCounter),
    klqPayloadOf (klqPack (p.setWidth 32) (c.setWidth 32)) = p ∧
    klqCounterOf (klqPack (p.setWidth 32) (c.setWidth 32)) = c)

/-- R108: decrypting an encrypted block with the same key gives the block back, for every key and every block, and so the
payload and the counter; encryption under a key is a permutation of the blocks. -/
def Obligations.DecryptInvertsEncrypt : Prop :=
  ∀ K : KlqKey,
    (∀ (p : KlqPayload) (c : KlqCounter),
      klqPayloadOf (klqDecrypt K (klqEncrypt K (klqPack (p.setWidth 32) (c.setWidth 32)))) = p ∧
      klqCounterOf (klqDecrypt K (klqEncrypt K (klqPack (p.setWidth 32) (c.setWidth 32)))) = c) ∧
    (∀ b : KlqBlock, klqDecrypt K (klqEncrypt K b) = b) ∧
    Function.Bijective (klqEncrypt K)

/-- R109: a round exclusive-ors all bits alike and rounds commute; the phases 0..15 occur 9 times and the others 8 times;
Q holds the bits that an odd number of pairs of a phase and a tap reach; 528 rounds exclusive-or the block with all ones
exactly if the number of rounds whose bit is 1 is odd; the closed form of the 528 rounds, and its consequences. -/
def Obligations.CipherClosedForm : Prop :=
  (∀ (b : KlqBlock) (rk rk' : KlqRoundKey),
    klqRound b rk = b ^^^ (if klqNlf rk then 0xFFFFFFFF#32 else 0x00000000#32) ∧
    klqRound (klqRound b rk) rk' = klqRound (klqRound b rk') rk) ∧
  (∀ s : Nat, s < 64 → ((List.range 528).filter fun r => r % 64 == s).length = if s ≤ 15 then 9 else 8) ∧
  (∀ j : Nat, j < 64 →
    ((0x00000CC6575D5B9B#64).getLsbD j = true ↔
      ((List.range 16).filter fun s => s ≤ j && Config.klqTaps.contains (j - s)).length % 2 = 1)) ∧
  (∀ (K : KlqKey) (s t : Nat), s ≤ 15 → t ∈ Config.klqTaps → (klqRoundKey K s).getLsbD t = K.getLsbD (s + t)) ∧
  (∀ (K : KlqKey) (b : KlqBlock),
    klqEncrypt K b = b ^^^
      (if ((List.range 528).filter fun r => klqNlf (klqRoundKey K r)).length % 2 = 1 then 0xFFFFFFFF#32
       else 0x00000000#32)) ∧
  (∀ (K : KlqKey) (b : KlqBlock),
    klqEncrypt K b =
      b ^^^ (if parity (K &&& 0x00000CC6575D5B9B#64) then 0xFFFFFFFF#32 else 0x00000000#32) ∧
    klqDecrypt K b = klqEncrypt K b ∧
    klqEncrypt K (klqEncrypt K b) = b ∧
    (parity (K &&& 0x00000CC6575D5B9B#64) = false → klqEncrypt K b = b)) ∧
  (∀ (K L : KlqKey) (b : KlqBlock), K &&& 0x00000CC6575D5B9B#64 = L &&& 0x00000CC6575D5B9B#64 →
    klqEncrypt K b = klqEncrypt L b)

/-- R110: KLQ_ENCRYPT: its result, its errors, and that nothing but DOUT and BUSY changes. -/
def Obligations.KlqEncryptCommand : Prop :=
  decode 0x00000005#32 = .ok .klqEncrypt ∧ ∀ s : State,
    (s.configured = true → s.aVariant = .keeloq →
      exec .klqEncrypt s = .next { s with
        dout := ⟨0#32, 0#32, 0#32,
          klqEncrypt (s.aKey.extractLsb' 0 64) (s.din.x2.extractLsb' 0 4 ++ s.din.x3.extractLsb' 0 28)⟩
        pending := none }) ∧
    (s.configured = false →
      exec .klqEncrypt s = .next { s with err := true, errCode := .notConfigured, pending := none }) ∧
    (s.configured = true → s.aVariant = .aes →
      exec .klqEncrypt s = .next { s with err := true, errCode := .wrongVariant, pending := none })

/-- R111: KLQ_ENCRYPT neither reads nor writes the receiver counter. -/
def Obligations.KlqEncryptIgnoresTheCounter : Prop :=
  ∀ (s t : State) (c : Counter), exec .klqEncrypt s = .next t →
    t.ctr = s.ctr ∧ exec .klqEncrypt { s with ctr := c } = .next { t with ctr := c }

/-- R112: KLQ_DECRYPT: its result, its errors, and that nothing but DOUT and BUSY changes. -/
def Obligations.KlqDecryptCommand : Prop :=
  decode 0x00000006#32 = .ok .klqDecrypt ∧ ∀ s : State,
    (s.configured = true → s.aVariant = .keeloq →
      exec .klqDecrypt s = .next { s with
        dout := ⟨0#32, 0#32,
          ((klqDecrypt (s.aKey.extractLsb' 0 64) s.din.x3).extractLsb' 28 4).setWidth 32,
          ((klqDecrypt (s.aKey.extractLsb' 0 64) s.din.x3).extractLsb' 0 28).setWidth 32⟩
        pending := none }) ∧
    (s.configured = false →
      exec .klqDecrypt s = .next { s with err := true, errCode := .notConfigured, pending := none }) ∧
    (s.configured = true → s.aVariant = .aes →
      exec .klqDecrypt s = .next { s with err := true, errCode := .wrongVariant, pending := none })

/-- KLQ_DECRYPT of what KLQ_ENCRYPT left in DOUT3 gives back the counter in DOUT2 and the payload in DOUT3. -/
def Obligations.EncryptThenDecryptGivesBack : Prop :=
  ∀ s : State, s.configured = true → s.aVariant = .keeloq →
    ∃ t u : State, exec .klqEncrypt s = .next t ∧
      exec .klqDecrypt { t with din := { t.din with x3 := t.dout.x3 } } = .next u ∧
      u.dout = ⟨0#32, 0#32, (s.din.x2.extractLsb' 0 4).setWidth 32, (s.din.x3.extractLsb' 0 28).setWidth 32⟩

/-! ### The CodeGenerator (41_code_generator.md) -/

/-- R132: KLQ_Gen encrypts the pair's payload packed with the counter's low four bits, so its codes repeat after 16
counters. -/
def Obligations.KlqGenIsCyclic : Prop :=
  ∀ (K : KlqKey) (P : KlqPayload) (n : Nat),
    klqGen K P n = klqEncrypt K (BitVec.ofNat 4 n ++ P) ∧ klqGen K P n = klqGen K P (n + 16)

/-- R136: GENERATE through the multiplexer: its result in either variant, its error, and that nothing but DOUT and BUSY
changes. -/
def Obligations.GenerateCommand : Prop :=
  decode 0x00000002#32 = .ok .generate ∧ ∀ s : State,
    (s.configured = true → s.aVariant = .aes →
      exec .generate s = .next { s with
        dout := wideQuad (aes128 s.aKey (s.din.x0 ++ s.din.x1 ++ s.din.x2 ++ s.din.x3))
        pending := none }) ∧
    (s.configured = true → s.aVariant = .keeloq →
      exec .generate s = .next { s with
        dout := ⟨0#32, 0#32, 0#32,
          klqEncrypt (s.aKey.extractLsb' 0 64) (s.din.x3.extractLsb' 0 4 ++ s.aPayload)⟩
        pending := none }) ∧
    (s.configured = false →
      exec .generate s = .next { s with err := true, errCode := .notConfigured, pending := none })

/-- The code of GENERATE depends on A_VARIANT, A_KEY, A_PAYLOAD and the counter operand alone: two configured states
that agree there, whatever else differs, get the same DOUT, and no receiver state moves (41_code_generator.md section
3). -/
def Obligations.GenerateDependsOnKeyAndCounter : Prop :=
  ∀ s t : State, s.configured = true → t.configured = true → s.aVariant = t.aVariant → s.aKey = t.aKey →
    (s.aVariant = .keeloq → s.aPayload = t.aPayload ∧ s.din.x3.extractLsb' 0 4 = t.din.x3.extractLsb' 0 4) →
    (s.aVariant = .aes → s.din = t.din) →
    ∃ u v : State, exec .generate s = .next u ∧ exec .generate t = .next v ∧ u.dout = v.dout ∧
      u.ctr = s.ctr ∧ u.result = s.result

/-! ### The RollingCodeMatcher (42_rolling_matcher.md) -/

/-- R155, with R156 and R157: AES_COMPARE accepts at the least matching offset and advances CTR past it, raises
COUNTER_OVERFLOW where that is 2^128, rejects where nothing matches, and raises its errors; nothing else changes. -/
def Obligations.AesCompareCommand : Prop :=
  decode 0x00000003#32 = .ok .aesCompare ∧ ∀ s : State,
    (∀ k : Nat, s.configured = true → s.aVariant = .aes → k ≤ s.aTol.toNat →
      s.ctr.toNat + k < 2 ^ 128 →
      aes128 s.aKey (BitVec.ofNat 128 (s.ctr.toNat + k)) = s.din.x0 ++ s.din.x1 ++ s.din.x2 ++ s.din.x3 →
      (∀ j : Nat, j < k →
        aes128 s.aKey (BitVec.ofNat 128 (s.ctr.toNat + j)) ≠ s.din.x0 ++ s.din.x1 ++ s.din.x2 ++ s.din.x3) →
      exec .aesCompare s = .next
        (if s.ctr.toNat + k + 1 = 2 ^ 128 then
          { s with err := true, errCode := .counterOverflow, pending := none }
        else
          { s with
            ctr := BitVec.ofNat 128 (s.ctr.toNat + k + 1)
            result := 0#16 ++ BitVec.ofNat 8 k ++ 0#7 ++ 1#1
            pending := none })) ∧
    (s.configured = true → s.aVariant = .aes →
      (∀ k : Nat, k ≤ s.aTol.toNat → s.ctr.toNat + k < 2 ^ 128 →
        aes128 s.aKey (BitVec.ofNat 128 (s.ctr.toNat + k)) ≠ s.din.x0 ++ s.din.x1 ++ s.din.x2 ++ s.din.x3) →
      exec .aesCompare s = .next { s with result := 0#32, pending := none }) ∧
    (s.configured = false →
      exec .aesCompare s = .next { s with err := true, errCode := .notConfigured, pending := none }) ∧
    (s.configured = true → s.aVariant = .keeloq →
      exec .aesCompare s = .next { s with err := true, errCode := .wrongVariant, pending := none })

/-- The acceptance law of AES_COMPARE (42_rolling_matcher.md section 2): without error it accepts exactly if some counter
of the window below 2^128 - 1 has the received code, and then at the least such offset; an emitter within the window, of
a counter that can be advanced, is accepted at its distance; a code of no window counter is rejected. -/
def Obligations.AesAcceptanceLaw : Prop :=
  ∀ s : State, s.configured = true → s.aVariant = .aes → s.err = false →
    (∀ t : State, exec .aesCompare s = .next t → t.err = false →
      (acceptBit t = true ↔ ∃ k : Nat, k ≤ s.aTol.toNat ∧ s.ctr.toNat + k < 2 ^ 128 - 1 ∧
        aes128 s.aKey (BitVec.ofNat 128 (s.ctr.toNat + k)) = quadWide s.din) ∧
      (acceptBit t = true →
        (offsetField t).toNat ≤ s.aTol.toNat ∧
        aes128 s.aKey (BitVec.ofNat 128 (s.ctr.toNat + (offsetField t).toNat)) = quadWide s.din ∧
        (∀ j : Nat, j < (offsetField t).toNat →
          aes128 s.aKey (BitVec.ofNat 128 (s.ctr.toNat + j)) ≠ quadWide s.din) ∧
        t.ctr.toNat = s.ctr.toNat + (offsetField t).toNat + 1)) ∧
    (∀ e : Nat, s.ctr.toNat ≤ e → e ≤ s.ctr.toNat + s.aTol.toNat → e < 2 ^ 128 - 1 →
      quadWide s.din = aes128 s.aKey (BitVec.ofNat 128 e) →
      (∀ a b : Nat, s.ctr.toNat ≤ a → a < b → b ≤ e →
        aes128 s.aKey (BitVec.ofNat 128 a) ≠ aes128 s.aKey (BitVec.ofNat 128 b)) →
      ∃ t : State, exec .aesCompare s = .next t ∧ t.err = false ∧ acceptBit t = true ∧
        (offsetField t).toNat = e - s.ctr.toNat ∧ t.ctr.toNat = e + 1)

/-- A counter has an AES code exactly if it is below 2^128: every counter a 128-bit operand can hold has one, so
InvalidCounter cannot occur at GENERATE (41_code_generator.md sections 1 and 4), and a window candidate of 2^128 or more
is absent; at CTR = 2^128 - 1 a code that is not the current one is rejected without error, so the counter never wraps
(42_rolling_matcher.md section 2). -/
def Obligations.AbsentCandidatesMatchNothing : Prop :=
  (∀ (K : AesKey) (v : Wide), aesGen K v.toNat = some (aes128 K v)) ∧
  (∀ (K : AesKey) (n : Nat), 2 ^ 128 ≤ n → aesGen K n = none) ∧
  (∀ (K : AesKey) (c : Counter) (k : Nat),
    (c.toNat + k < 2 ^ 128 → aesCandidate K c k = some (aes128 K (BitVec.ofNat 128 (c.toNat + k)))) ∧
    (2 ^ 128 ≤ c.toNat + k → aesCandidate K c k = none)) ∧
  (∀ s : State, s.configured = true → s.aVariant = .aes → s.ctr = BitVec.allOnes 128 →
    aes128 s.aKey s.ctr ≠ quadWide s.din →
    exec .aesCompare s = .next { s with result := 0#32, pending := none })

/-- R165: KLQ_RECEIVE accepts at the least offset whose candidate is the extracted counter, rejects where none is, and
raises its errors; nothing else changes. -/
def Obligations.KlqReceiveCommand : Prop :=
  decode 0x00000004#32 = .ok .klqReceive ∧ ∀ (s : State) (b : KlqBlock), b = klqDecrypt (s.aKey.extractLsb' 0 64) s.din.x3 →
    (∀ i : Nat, s.configured = true → s.aVariant = .keeloq → i ≤ s.aTol.toNat →
      (b.extractLsb' 28 4).toNat = ((s.ctr.extractLsb' 0 4).toNat + i) % 16 →
      (∀ j : Nat, j < i → (b.extractLsb' 28 4).toNat ≠ ((s.ctr.extractLsb' 0 4).toNat + j) % 16) →
      exec .klqReceive s = .next { s with
        ctr := s.ctr.extractLsb' 4 124 ++ b.extractLsb' 28 4
        dout := ⟨0#32, 0#32, 0#32, (b.extractLsb' 0 28).setWidth 32⟩
        result := 0#16 ++ BitVec.ofNat 8 i ++ 0#7 ++ 1#1
        pending := none }) ∧
    (s.configured = true → s.aVariant = .keeloq →
      (∀ i : Nat, i ≤ s.aTol.toNat → (b.extractLsb' 28 4).toNat ≠ ((s.ctr.extractLsb' 0 4).toNat + i) % 16) →
      exec .klqReceive s = .next { s with
        dout := ⟨0#32, 0#32, 0#32, 0#32⟩, result := 0#32, pending := none }) ∧
    (s.configured = false →
      exec .klqReceive s = .next { s with err := true, errCode := .notConfigured, pending := none }) ∧
    (s.configured = true → s.aVariant = .aes →
      exec .klqReceive s = .next { s with err := true, errCode := .wrongVariant, pending := none })

/-- R166: with d = (ec - LAST) mod 16, KLQ_RECEIVE accepts exactly if d is at most A_TOL, reports d and sets LAST to ec;
a replay of the last accepted counter is accepted at offset 0; a tolerance of 15 or more accepts every block. -/
def Obligations.KlqAcceptanceLaw : Prop :=
  ∀ (s : State) (ec : KlqCounter), s.configured = true → s.aVariant = .keeloq →
    ec = (klqDecrypt (s.aKey.extractLsb' 0 64) s.din.x3).extractLsb' 28 4 →
    ∃ t : State, exec .klqReceive s = .next t ∧ t.err = s.err ∧
      (acceptBit t = true ↔ (ec - last s).toNat ≤ s.aTol.toNat) ∧
      (acceptBit t = true → (offsetField t).toNat = (ec - last s).toNat ∧ last t = ec) ∧
      (acceptBit t = false → t.ctr = s.ctr) ∧
      (ec = last s → acceptBit t = true ∧ offsetField t = 0#8 ∧ t.ctr = s.ctr) ∧
      (15 ≤ s.aTol.toNat → acceptBit t = true)

/-- CTR is written only by CONFIGURE, to 0, and by an accepting AES_COMPARE or KLQ_RECEIVE (10_state.md section 3); in an
AES pair it only grows, by at most the tolerance plus one. -/
def Obligations.CounterMovesOnlyOnAccept : Prop :=
  ∀ (i : Instr) (s t : State), exec i s = .next t →
    (t.ctr ≠ s.ctr → (i = .configure ∧ t.ctr = 0#128) ∨
      (i ∈ [Instr.aesCompare, .klqReceive] ∧ acceptBit t = true ∧ t.err = s.err)) ∧
    (i ≠ .configure → s.aVariant = .aes →
      s.ctr.toNat ≤ t.ctr.toNat ∧ t.ctr.toNat ≤ s.ctr.toNat + s.aTol.toNat + 1)

/-! ### The register window (10_state.md, 20_memory.md) -/

/-- What a read of each offset returns while BUSY = 0, from the register map (20_memory.md section 1): a Host read of a
mapped offset logs the value, which is the following. -/
def Obligations.RegisterMapReads : Prop :=
  (∀ (s : State) (r : WindowReg), s.busy = false →
    hostOp (.read (regOffset r) .bits32) s = .next { s with reads := readWindow (regOffset r) s :: s.reads }) ∧
  ∀ s : State,
    readWindow 0x00#8 s = s.ctrl ∧ readWindow 0x04#8 s = 0#32 ∧ readWindow 0x08#8 s = statusWord s ∧
    readWindow 0x0C#8 s = s.result ∧
    readWindow 0x10#8 s = 0#32 ∧ readWindow 0x14#8 s = 0#32 ∧ readWindow 0x18#8 s = 0#32 ∧
    readWindow 0x1C#8 s = 0#32 ∧ readWindow 0x20#8 s = s.payload ∧
    readWindow 0x30#8 s = s.din.x0 ∧ readWindow 0x34#8 s = s.din.x1 ∧ readWindow 0x38#8 s = s.din.x2 ∧
    readWindow 0x3C#8 s = s.din.x3 ∧
    readWindow 0x40#8 s = s.dout.x0 ∧ readWindow 0x44#8 s = s.dout.x1 ∧ readWindow 0x48#8 s = s.dout.x2 ∧
    readWindow 0x4C#8 s = s.dout.x3 ∧
    readWindow 0x50#8 s = s.ctr.extractLsb' 96 32 ∧ readWindow 0x54#8 s = s.ctr.extractLsb' 64 32 ∧
    readWindow 0x58#8 s = s.ctr.extractLsb' 32 32 ∧ readWindow 0x5C#8 s = s.ctr.extractLsb' 0 32

/-- The layout of STATUS, bit by bit, with the codes of the errors (10_state.md section 3, 60_exceptions.md section 1), and
what a Host write to it does while BUSY = 0. -/
def Obligations.StatusLayout : Prop :=
  ∀ s : State,
    (statusWord s).getLsbD 0 = s.busy ∧
    (statusWord s).getLsbD 1 = s.configured ∧
    (statusWord s).getLsbD 2 = s.err ∧
    (statusWord s).getLsbD 3 = s.overrun ∧
    (statusWord s).extractLsb' 4 4 = (match s.errCode with
      | .noError => 0#4
      | .illegalCommand => 1#4
      | .notConfigured => 2#4
      | .wrongVariant => 3#4
      | .invalidKeyLength => 4#4
      | .counterOverflow => 5#4) ∧
    (statusWord s).getLsbD 8 = (s.configured && decide (s.aVariant = .keeloq)) ∧
    (statusWord s).extractLsb' 9 7 = 0#7 ∧
    (statusWord s).extractLsb' 16 8 = (if s.configured then s.aTol else 0#8) ∧
    (statusWord s).extractLsb' 24 8 = 0#8 ∧
    (s.busy = false → ∀ v : Word,
      hostOp (.write 0x08#8 .bits32 v) s =
        .next { s with overrun := if v.getLsbD 3 then false else s.overrun })

/-- R52: X0, at the lowest offset, holds bits 127:96 and X3 holds bits 31:0, for KEY, DIN, DOUT and CTR: the register at
index i of a group, at offset base + 4 * i, reads bits 127 - 32 * i down to 96 - 32 * i of the 128-bit value, and a Host
write to index i of KEY or DIN replaces exactly those bits. A new pair's key is the 128-bit value of KEY, and its KeeLoq
key is KEY2 above KEY3. -/
def Obligations.LowestOffsetIsMostSignificant : Prop :=
  (∀ q : Quad, (quadWide q).extractLsb' 96 32 = q.x0 ∧ (quadWide q).extractLsb' 64 32 = q.x1 ∧
    (quadWide q).extractLsb' 32 32 = q.x2 ∧ (quadWide q).extractLsb' 0 32 = q.x3) ∧
  (∀ v : Wide, quadWide (wideQuad v) = v) ∧
  (∀ i : Fin 4, (regOffset (.key i)).toNat = 0x10 + 4 * i.val ∧ (regOffset (.din i)).toNat = 0x30 + 4 * i.val ∧
    (regOffset (.dout i)).toNat = 0x40 + 4 * i.val ∧ (regOffset (.ctr i)).toNat = 0x50 + 4 * i.val) ∧
  (∀ r : WindowReg, windowReg (regOffset r) = some r) ∧
  (∀ (s : State) (i : Fin 4),
    readWindow (regOffset (.din i)) s = (quadWide s.din).extractLsb' (96 - 32 * i.val) 32 ∧
    readWindow (regOffset (.dout i)) s = (quadWide s.dout).extractLsb' (96 - 32 * i.val) 32 ∧
    readWindow (regOffset (.ctr i)) s = s.ctr.extractLsb' (96 - 32 * i.val) 32) ∧
  (∀ (s : State) (i : Fin 4) (v : Word), s.busy = false →
    (∃ q : Quad, hostOp (.write (regOffset (.key i)) .bits32 v) s = .next { s with key := q } ∧
      ∀ j : Fin 4, (quadWide q).extractLsb' (96 - 32 * j.val) 32 =
        if j = i then v else (quadWide s.key).extractLsb' (96 - 32 * j.val) 32) ∧
    (∃ q : Quad, hostOp (.write (regOffset (.din i)) .bits32 v) s = .next { s with din := q } ∧
      ∀ j : Fin 4, (quadWide q).extractLsb' (96 - 32 * j.val) 32 =
        if j = i then v else (quadWide s.din).extractLsb' (96 - 32 * j.val) 32)) ∧
  (∀ s t : State, exec .configure s = .next t → t.configured = true → t.aKey = quadWide s.key) ∧
  (∀ s t : State, s.ctrl.getLsbD 0 = true → s.ctrl.extractLsb' 8 5 = 8#5 → exec .configure s = .next t →
    t.aKey.extractLsb' 0 64 = s.key.x2 ++ s.key.x3)

/-- Byte i of a 16-byte code is byte `i mod 4`, from the most significant, of word `i / 4` (20_memory.md section 2). -/
def Obligations.CodesAreBigEndian : Prop :=
  (∀ (q : Quad) (i j : Fin 4) (n : Fin 16), n.val = 4 * i.val + j.val →
    codeByte (quadWide q) n = klqByte (quadWord q i) j) ∧
  (∀ v : KlqBlock, klqByte v 0 ++ klqByte v 1 ++ klqByte v 2 ++ klqByte v 3 = v)

/-- R54: an access that is not 32 bits wide or not at a multiple of 4 is a bus error of the Host, in every state in which
the Host moves. -/
def Obligations.MalformedAccessFaults : Prop :=
  ∀ (s : State) (o : Offset) (width : AccessWidth) (v : Word) (rest : List HostOp),
    ¬ (width = .bits32 ∧ o.toNat % 4 = 0) →
    (∀ p : Pending, s.pending = some p → p.wait ≠ 0) →
    (s.host = .read o width :: rest ∨ s.host = .write o width v :: rest) →
    step s = .fault (.busError o width)

/-- R55: while BUSY = 0 a write to a read-only register changes nothing (STATUS: nothing but OVERRUN), a write to KEY is
performed, and CMD and KEY read 0. -/
def Obligations.ReadOnlyRegistersIgnoreWrites : Prop :=
  ∀ (s : State) (v : Word), s.busy = false →
    (∀ o : Offset, o ∈ [0x0C#8, 0x40#8, 0x44#8, 0x48#8, 0x4C#8, 0x50#8, 0x54#8, 0x58#8, 0x5C#8] →
      hostOp (.write o .bits32 v) s = .next s) ∧
    (v.getLsbD 3 = false → hostOp (.write 0x08#8 .bits32 v) s = .next s) ∧
    hostOp (.write 0x10#8 .bits32 v) s = .next { s with key := { s.key with x0 := v } } ∧
    hostOp (.write 0x14#8 .bits32 v) s = .next { s with key := { s.key with x1 := v } } ∧
    hostOp (.write 0x18#8 .bits32 v) s = .next { s with key := { s.key with x2 := v } } ∧
    hostOp (.write 0x1C#8 .bits32 v) s = .next { s with key := { s.key with x3 := v } } ∧
    (∃ n d : Nat, hostOp (.write 0x04#8 .bits32 v) s = .next { s with
      pending := some ⟨v, n⟩, err := false, errCode := .noError, draws := d }) ∧
    (∀ o : Offset, o ∈ [0x04#8, 0x10#8, 0x14#8, 0x18#8, 0x1C#8] →
      hostOp (.read o .bits32) s = .next { s with reads := 0#32 :: s.reads })

/-- R56: an unmapped offset reads 0 and ignores a write, except that a write while BUSY = 1 sets OVERRUN. -/
def Obligations.UnmappedOffsetsReadZero : Prop :=
  ∀ (s : State) (o : Offset) (v : Word), o.toNat % 4 = 0 →
    ((0x24 ≤ o.toNat ∧ o.toNat ≤ 0x2C) ∨ 0x60 ≤ o.toNat) →
    hostOp (.read o .bits32) s = .next { s with reads := 0#32 :: s.reads } ∧
    (s.busy = false → hostOp (.write o .bits32 v) s = .next s) ∧
    (s.busy = true → hostOp (.write o .bits32 v) s = .next { s with overrun := true })

/-- Every well-formed Host write is the write of the register window, and while BUSY = 0 one to CTRL, PAYLOAD or a DIN
register stores the bits that exist, is read back at once, and changes nothing else, the pair included (10_state.md
sections 2 and 3). -/
def Obligations.StagingWritesStore : Prop :=
  (∀ (s : State) (o : Offset) (v : Word), o.toNat % 4 = 0 →
    hostOp (.write o .bits32 v) s = .next (busWrite o v s)) ∧
  (∀ (s : State) (v : Word), s.busy = false →
    hostOp (.write 0x00#8 .bits32 v) s = .next { s with ctrl := v &&& 0x00FF1F01#32 } ∧
    hostOp (.write 0x20#8 .bits32 v) s = .next { s with payload := v &&& 0x0FFFFFFF#32 } ∧
    hostOp (.write 0x30#8 .bits32 v) s = .next { s with din := { s.din with x0 := v } } ∧
    hostOp (.write 0x34#8 .bits32 v) s = .next { s with din := { s.din with x1 := v } } ∧
    hostOp (.write 0x38#8 .bits32 v) s = .next { s with din := { s.din with x2 := v } } ∧
    hostOp (.write 0x3C#8 .bits32 v) s = .next { s with din := { s.din with x3 := v } } ∧
    (∀ o : Offset, o ∈ [0x30#8, 0x34#8, 0x38#8, 0x3C#8] → readWindow o (busWrite o v s) = v) ∧
    readWindow 0x00#8 (busWrite 0x00#8 v s) = v &&& 0x00FF1F01#32 ∧
    readWindow 0x20#8 (busWrite 0x20#8 v s) = v &&& 0x0FFFFFFF#32)

/-- Every well-formed Host read is the read of the register window; it changes no register and returns the register's
value, except that RESULT, DOUT and CTR return a free value while BUSY = 1 (20_memory.md R57 and R59; log entry 2). -/
def Obligations.ReadsHaveNoSideEffect : Prop :=
  ∀ (s : State) (o : Offset), o.toNat % 4 = 0 →
    hostOp (.read o .bits32) s = .next (busRead o s) ∧
    (s.busy = false → hostOp (.read o .bits32) s = .next { s with reads := readWindow o s :: s.reads }) ∧
    (s.busy = true →
      o ∉ [0x0C#8, 0x40#8, 0x44#8, 0x48#8, 0x4C#8, 0x50#8, 0x54#8, 0x58#8, 0x5C#8] →
      hostOp (.read o .bits32) s = .next { s with reads := readWindow o s :: s.reads }) ∧
    (s.busy = true →
      o ∈ [0x0C#8, 0x40#8, 0x44#8, 0x48#8, 0x4C#8, 0x50#8, 0x54#8, 0x58#8, 0x5C#8] →
      hostOp (.read o .bits32) s =
        .next { s with reads := Config.busyRead s.draws :: s.reads, draws := s.draws + 1 })

/-- R248: a well-formed write while BUSY = 1 changes nothing but OVERRUN, which then stays 1 until reset or a write of
STATUS with bit 3 set while BUSY = 0; a malformed write is a fault and sets nothing. -/
def Obligations.WritesWhileBusyOnlyOverrun : Prop :=
  (∀ (s : State) (o : Offset) (width : AccessWidth) (v : Word), s.busy = true →
    hostOp (.write o width v) s =
      if width = .bits32 ∧ o.toNat % 4 = 0 then .next { s with overrun := true } else .fault (.busError o width)) ∧
  (∀ s t : State, step s = .next t → s.overrun = true → t.overrun = false →
    (∃ rest : List HostOp, s.host = .reset :: rest ∧ (∀ p : Pending, s.pending = some p → p.wait ≠ 0) ∧
      t = { State.reset with host := rest, reads := t.reads, draws := t.draws }) ∨
    (s.busy = false ∧ ∃ (v : Word) (rest : List HostOp),
      s.host = .write 0x08#8 .bits32 v :: rest ∧ v.getLsbD 3 = true))

/-- The key cannot be read back (20_memory.md section 4): two states that differ only in KEY and A_KEY return the same
value to the Host's next access. -/
def Obligations.NoReadShowsTheKey : Prop :=
  ∀ (s t : State) (k : Quad) (a : Wide), hostStep s = .next t →
    ∃ t' : State, hostStep { s with key := k, aKey := a } = .next t' ∧ t'.reads = t.reads ∧
      ∀ o : Offset, readWindow o t' = readWindow o t

/-- The frame of the Engine: no command writes a staging register, an operand register, OVERRUN or anything of the Host,
and every offset but STATUS, RESULT, DOUT and CTR reads after it as before. -/
def Obligations.CommandsLeaveStagingAlone : Prop :=
  ∀ (i : Instr) (s t : State), exec i s = .next t →
    t.din = s.din ∧ t.key = s.key ∧ t.ctrl = s.ctrl ∧ t.payload = s.payload ∧ t.overrun = s.overrun ∧
    t.host = s.host ∧ t.reads = s.reads ∧ t.draws = s.draws ∧
    ∀ o : Offset, o ∉ [0x08#8, 0x0C#8, 0x40#8, 0x44#8, 0x48#8, 0x4C#8, 0x50#8, 0x54#8, 0x58#8, 0x5C#8] →
      readWindow o t = readWindow o s

/-- `poll` reads STATUS until a read returns BUSY = 0: it retires exactly then (30_encoding.md section 3; the count of Host
steps is the model's, log entry 1). -/
def Obligations.PollWaitsForBusy : Prop :=
  (∀ (s : State) (rest : List HostOp), s.pending = none → s.host = .poll :: rest →
    step s = .next { s with host := rest }) ∧
  (∀ (s : State) (p : Pending) (rest : List HostOp), s.pending = some p → p.wait ≠ 0 → s.host = .poll :: rest →
    step s = .next { s with pending := some ⟨p.word, p.wait - 1⟩ })

/-! ### Reset and invariants (70_reset_and_hazards.md, 10_state.md) -/

/-- R38: the state after reset. -/
def Obligations.ResetValues : Prop :=
  State.reset.ctrl = 0x00050000#32 ∧ statusWord State.reset = 0x00000000#32 ∧ State.reset.result = 0#32 ∧
  State.reset.key = ⟨0#32, 0#32, 0#32, 0#32⟩ ∧ State.reset.payload = 0#32 ∧
  State.reset.din = ⟨0#32, 0#32, 0#32, 0#32⟩ ∧ State.reset.dout = ⟨0#32, 0#32, 0#32, 0#32⟩ ∧
  State.reset.ctr = 0#128 ∧ State.reset.aKey = 0#128 ∧ State.reset.aVariant = .aes ∧ State.reset.aTol = 0#8 ∧
  State.reset.aPayload = 0#28 ∧ State.reset.pending = none ∧ State.reset.configured = false ∧
  State.reset.err = false ∧ State.reset.errCode = .noError ∧ State.reset.overrun = false ∧
  ∀ o : Offset, readWindow o State.reset = if o = 0x00#8 then 0x00050000#32 else 0#32

/-- R230: reset sets every register and hidden field to its reset value, from every state in which the Host moves, and
abandons a command in progress. What the model keeps beside the block is left open here. -/
def Obligations.ResetFromEveryState : Prop :=
  ∀ (s : State) (rest : List HostOp), s.host = .reset :: rest →
    (∀ p : Pending, s.pending = some p → p.wait ≠ 0) →
    ∃ t : State, step s = .next t ∧
      t = { State.reset with host := t.host, reads := t.reads, draws := t.draws }

/-- The reset state meets the invariants. -/
def Obligations.ResetMeetsTheInvariants : Prop := Inv State.reset

/-- Every step from every state that meets the invariants gives a state that meets them. -/
def Obligations.StepKeepsTheInvariants : Prop :=
  ∀ s t : State, Inv s → step s = .next t → Inv t

/-- 10_state.md section 5: the invariants hold in every state that a run from reset reaches, whatever the Host does. That
BUSY is the presence of a pending command is the model's reading of R26, R32 and R37, by definition (log entry 5); what
begins and ends it is BusyLastsFromIssueToCompletion. -/
def Obligations.ReachableStatesMeetTheInvariants : Prop :=
  ∀ s : State, Reachable s → Inv s ∧ (s.busy = true ↔ ∃ p : Pending, s.pending = some p)

/-- A run whose Host program is finished and whose BUSY is 0 is over: nothing changes any more (R251; the model's idle step
of log entry 13). -/
def Obligations.FinalStatesStay : Prop :=
  (∀ s : State, Final s → step s = .next s) ∧ (∀ s : State, s.busy = true → ¬ Final s)

/-- BUSY is 1 from the issue of a command until its completion (10_state.md section 3): a step raises it exactly if it is a
Host write to CMD, and ends it exactly if it is the completion of the pending word, or a reset, which abandons it; a
step that does neither keeps it and the pending word. -/
def Obligations.BusyLastsFromIssueToCompletion : Prop :=
  (∀ s t : State, s.busy = false → step s = .next t →
    (t.busy = true ↔ ∃ (w : Word) (rest : List HostOp), s.host = .write 0x04#8 .bits32 w :: rest) ∧
    (∀ (w : Word) (rest : List HostOp), s.host = .write 0x04#8 .bits32 w :: rest →
      ∃ n : Nat, t.pending = some ⟨w, n⟩)) ∧
  (∀ (s t : State) (p : Pending), s.pending = some p → step s = .next t →
    (t.busy = false ↔
      ((p.wait = 0 ∨ s.host = []) ∧ completeWord p.word s = .next t) ∨
      (p.wait ≠ 0 ∧ ∃ rest : List HostOp, s.host = .reset :: rest)) ∧
    (t.busy = true → t.pending = some ⟨p.word, p.wait - 1⟩))
end

