-- ==== Sys2Proof/Laws/Cipher.lean ====
section
/-! SUPPORT. The small lemmas of the KeeloqCipher's round. -/

namespace Sys2Proof.Machine

@[simp] theorem klqSpread_false : klqSpread false = 0#32 := rfl

@[simp] theorem klqSpread_true : klqSpread true = 0xFFFFFFFF#32 := rfl

theorem klqSpread_xor (f g : Bool) : klqSpread f ^^^ klqSpread g = klqSpread (f ^^ g) := by
  cases f <;> cases g <;> decide

/-- Two rounds are one with the exclusive-or of their bits. -/
theorem klqRound_klqRound (b : KlqBlock) (rk rk' : KlqRoundKey) :
    klqRound (klqRound b rk) rk' = b ^^^ klqSpread (klqNlf rk ^^ klqNlf rk') := by
  simp only [klqRound, BitVec.xor_assoc, klqSpread_xor]

/-- Rounds commute. -/
theorem klqRound_comm (b : KlqBlock) (rk rk' : KlqRoundKey) :
    klqRound (klqRound b rk) rk' = klqRound (klqRound b rk') rk := by
  simp only [klqRound_klqRound, Bool.xor_comm]

/-- A round is its own inverse. -/
theorem klqRound_self (b : KlqBlock) (rk : KlqRoundKey) : klqRound (klqRound b rk) rk = b := by
  simp [klqRound_klqRound]

end Sys2Proof.Machine
end

