-- ==== Sys2Proof/Laws/Literals.lean ====
section
/-! SUPPORT. The definitions that use a named literal of Config.lean, each with its value put in, for proofs that count. -/

namespace Sys2Proof.Machine

theorem aesCtrLimit_eq : Config.aesCtrLimit = 2 ^ 128 := rfl

theorem ctrlMask_eq : Config.ctrlMask = 0x00FF1F01#32 := rfl

theorem klqPayloadMask_eq : Config.klqPayloadMask = 0x0FFFFFFF#32 := rfl

/-- A KeeLoq counter is below 16, for arithmetic. -/
theorem klqCounter_lt (c : KlqCounter) : c.toNat < 16 := c.isLt

/-- A KeeLoq payload is below 2^28, for arithmetic. -/
theorem klqPayload_lt (p : KlqPayload) : p.toNat < 2 ^ 28 := p.isLt

theorem klqPack_eq (p c : Word) : klqPack p c = ((c &&& 0xF#32) <<< 28) ||| (p &&& 0x0FFFFFFF#32) := rfl

theorem klqSpread_eq (f : Bool) : klqSpread f = if f then 0xFFFFFFFF#32 else 0x00000000#32 := rfl

theorem klqRoundKey_eq (K : KlqKey) (r : Nat) : klqRoundKey K r = (K >>> (r % 64)).setWidth 32 := rfl

theorem klqFeedback_eq (rk : KlqRoundKey) (out : KlqBlock) :
    klqFeedback rk out = (rk.setWidth 64 >>> 1) ||| ((out.extractLsb' 0 1).setWidth 64 <<< 63) := rfl

theorem klqPayloadOf_eq (b : KlqBlock) : klqPayloadOf b = b.extractLsb' 0 28 := rfl

theorem klqCounterOf_eq (b : KlqBlock) : klqCounterOf b = b.extractLsb' 28 4 := rfl

theorem klqEncrypt_eq (K : KlqKey) (b : KlqBlock) :
    klqEncrypt K b = (List.range 528).foldl (fun b r => klqRound b (klqRoundKey K r)) b := rfl

theorem klqDecrypt_eq (K : KlqKey) (b : KlqBlock) :
    klqDecrypt K b = (List.range 528).foldl (fun b j => klqRound b (klqRoundKey K (527 - j))) b := rfl

theorem aesGen_eq (K : AesKey) (n : Nat) :
    aesGen K n = if n < 2 ^ 128 then some (aes128 K (BitVec.ofNat 128 n)) else none := rfl

theorem klqGen_eq (K : KlqKey) (P : KlqPayload) (n : Nat) :
    klqGen K P n = klqEncrypt K (klqPack (P.setWidth 32) (BitVec.ofNat 32 n &&& 0xF#32)) := rfl

theorem generateCounter_keeloq {s : State} (h : s.aVariant = .keeloq) :
    generateCounter s = (operandGenCounter s).setWidth 128 := by
  rw [generateCounter, h]

theorem klqCandidate_eq (l : KlqCounter) (i : Nat) : klqCandidate l i = l + BitVec.ofNat 4 i := rfl

theorem setLast_eq (c : Counter) (e : KlqCounter) : setLast c e = c.extractLsb' 4 124 ++ e := rfl

theorem operandPayload_eq (s : State) : operandPayload s = s.din.x3.extractLsb' 0 28 := rfl

theorem operandCounter_eq (s : State) : operandCounter s = s.din.x2.extractLsb' 0 4 := rfl

theorem operandGenCounter_eq (s : State) : operandGenCounter s = s.din.x3.extractLsb' 0 4 := rfl

theorem operandStagedPayload_eq (s : State) : operandStagedPayload s = s.payload.extractLsb' 0 28 := rfl

theorem klqKey_eq (s : State) : klqKey s = s.aKey.extractLsb' 0 64 := rfl

theorem last_eq (s : State) : last s = s.ctr.extractLsb' 0 4 := rfl

end Sys2Proof.Machine
end

