-- ==== Sys2Proof/Laws/State.lean ====
section
/-! SUPPORT. One lemma per field per update of the state, each true by definition, so that no proof unfolds a record
update. -/

namespace Sys2Proof.Machine.State

variable (s : State)

@[simp] theorem finish_ctrl : s.finish.ctrl = s.ctrl := rfl
@[simp] theorem finish_configured : s.finish.configured = s.configured := rfl
@[simp] theorem finish_err : s.finish.err = s.err := rfl
@[simp] theorem finish_overrun : s.finish.overrun = s.overrun := rfl
@[simp] theorem finish_errCode : s.finish.errCode = s.errCode := rfl
@[simp] theorem finish_result : s.finish.result = s.result := rfl
@[simp] theorem finish_key : s.finish.key = s.key := rfl
@[simp] theorem finish_payload : s.finish.payload = s.payload := rfl
@[simp] theorem finish_din : s.finish.din = s.din := rfl
@[simp] theorem finish_dout : s.finish.dout = s.dout := rfl
@[simp] theorem finish_ctr : s.finish.ctr = s.ctr := rfl
@[simp] theorem finish_aKey : s.finish.aKey = s.aKey := rfl
@[simp] theorem finish_aVariant : s.finish.aVariant = s.aVariant := rfl
@[simp] theorem finish_aTol : s.finish.aTol = s.aTol := rfl
@[simp] theorem finish_aPayload : s.finish.aPayload = s.aPayload := rfl
@[simp] theorem finish_pending : s.finish.pending = none := rfl
@[simp] theorem finish_host : s.finish.host = s.host := rfl
@[simp] theorem finish_reads : s.finish.reads = s.reads := rfl
@[simp] theorem finish_draws : s.finish.draws = s.draws := rfl

@[simp] theorem raise_ctrl (e : ErrorCode) : (s.raise e).ctrl = s.ctrl := rfl
@[simp] theorem raise_configured (e : ErrorCode) : (s.raise e).configured = s.configured := rfl
@[simp] theorem raise_err (e : ErrorCode) : (s.raise e).err = true := rfl
@[simp] theorem raise_overrun (e : ErrorCode) : (s.raise e).overrun = s.overrun := rfl
@[simp] theorem raise_errCode (e : ErrorCode) : (s.raise e).errCode = e := rfl
@[simp] theorem raise_result (e : ErrorCode) : (s.raise e).result = s.result := rfl
@[simp] theorem raise_key (e : ErrorCode) : (s.raise e).key = s.key := rfl
@[simp] theorem raise_payload (e : ErrorCode) : (s.raise e).payload = s.payload := rfl
@[simp] theorem raise_din (e : ErrorCode) : (s.raise e).din = s.din := rfl
@[simp] theorem raise_dout (e : ErrorCode) : (s.raise e).dout = s.dout := rfl
@[simp] theorem raise_ctr (e : ErrorCode) : (s.raise e).ctr = s.ctr := rfl
@[simp] theorem raise_aKey (e : ErrorCode) : (s.raise e).aKey = s.aKey := rfl
@[simp] theorem raise_aVariant (e : ErrorCode) : (s.raise e).aVariant = s.aVariant := rfl
@[simp] theorem raise_aTol (e : ErrorCode) : (s.raise e).aTol = s.aTol := rfl
@[simp] theorem raise_aPayload (e : ErrorCode) : (s.raise e).aPayload = s.aPayload := rfl
@[simp] theorem raise_pending (e : ErrorCode) : (s.raise e).pending = none := rfl
@[simp] theorem raise_host (e : ErrorCode) : (s.raise e).host = s.host := rfl
@[simp] theorem raise_reads (e : ErrorCode) : (s.raise e).reads = s.reads := rfl
@[simp] theorem raise_draws (e : ErrorCode) : (s.raise e).draws = s.draws := rfl

@[simp] theorem issue_ctrl (w : Word) (n : Nat) : (s.issue w n).ctrl = s.ctrl := rfl
@[simp] theorem issue_configured (w : Word) (n : Nat) : (s.issue w n).configured = s.configured := rfl
@[simp] theorem issue_err (w : Word) (n : Nat) : (s.issue w n).err = false := rfl
@[simp] theorem issue_overrun (w : Word) (n : Nat) : (s.issue w n).overrun = s.overrun := rfl
@[simp] theorem issue_errCode (w : Word) (n : Nat) : (s.issue w n).errCode = .noError := rfl
@[simp] theorem issue_result (w : Word) (n : Nat) : (s.issue w n).result = s.result := rfl
@[simp] theorem issue_key (w : Word) (n : Nat) : (s.issue w n).key = s.key := rfl
@[simp] theorem issue_payload (w : Word) (n : Nat) : (s.issue w n).payload = s.payload := rfl
@[simp] theorem issue_din (w : Word) (n : Nat) : (s.issue w n).din = s.din := rfl
@[simp] theorem issue_dout (w : Word) (n : Nat) : (s.issue w n).dout = s.dout := rfl
@[simp] theorem issue_ctr (w : Word) (n : Nat) : (s.issue w n).ctr = s.ctr := rfl
@[simp] theorem issue_aKey (w : Word) (n : Nat) : (s.issue w n).aKey = s.aKey := rfl
@[simp] theorem issue_aVariant (w : Word) (n : Nat) : (s.issue w n).aVariant = s.aVariant := rfl
@[simp] theorem issue_aTol (w : Word) (n : Nat) : (s.issue w n).aTol = s.aTol := rfl
@[simp] theorem issue_aPayload (w : Word) (n : Nat) : (s.issue w n).aPayload = s.aPayload := rfl
@[simp] theorem issue_pending (w : Word) (n : Nat) : (s.issue w n).pending = some ⟨w, n⟩ := rfl
@[simp] theorem issue_host (w : Word) (n : Nat) : (s.issue w n).host = s.host := rfl
@[simp] theorem issue_reads (w : Word) (n : Nat) : (s.issue w n).reads = s.reads := rfl
@[simp] theorem issue_draws (w : Word) (n : Nat) : (s.issue w n).draws = s.draws := rfl

@[simp] theorem setDout_ctrl (q : Quad) : (s.setDout q).ctrl = s.ctrl := rfl
@[simp] theorem setDout_configured (q : Quad) : (s.setDout q).configured = s.configured := rfl
@[simp] theorem setDout_err (q : Quad) : (s.setDout q).err = s.err := rfl
@[simp] theorem setDout_overrun (q : Quad) : (s.setDout q).overrun = s.overrun := rfl
@[simp] theorem setDout_errCode (q : Quad) : (s.setDout q).errCode = s.errCode := rfl
@[simp] theorem setDout_result (q : Quad) : (s.setDout q).result = s.result := rfl
@[simp] theorem setDout_key (q : Quad) : (s.setDout q).key = s.key := rfl
@[simp] theorem setDout_payload (q : Quad) : (s.setDout q).payload = s.payload := rfl
@[simp] theorem setDout_din (q : Quad) : (s.setDout q).din = s.din := rfl
@[simp] theorem setDout_dout (q : Quad) : (s.setDout q).dout = q := rfl
@[simp] theorem setDout_ctr (q : Quad) : (s.setDout q).ctr = s.ctr := rfl
@[simp] theorem setDout_aKey (q : Quad) : (s.setDout q).aKey = s.aKey := rfl
@[simp] theorem setDout_aVariant (q : Quad) : (s.setDout q).aVariant = s.aVariant := rfl
@[simp] theorem setDout_aTol (q : Quad) : (s.setDout q).aTol = s.aTol := rfl
@[simp] theorem setDout_aPayload (q : Quad) : (s.setDout q).aPayload = s.aPayload := rfl
@[simp] theorem setDout_pending (q : Quad) : (s.setDout q).pending = s.pending := rfl
@[simp] theorem setDout_host (q : Quad) : (s.setDout q).host = s.host := rfl
@[simp] theorem setDout_reads (q : Quad) : (s.setDout q).reads = s.reads := rfl
@[simp] theorem setDout_draws (q : Quad) : (s.setDout q).draws = s.draws := rfl

@[simp] theorem setResult_ctrl (w : Word) : (s.setResult w).ctrl = s.ctrl := rfl
@[simp] theorem setResult_configured (w : Word) : (s.setResult w).configured = s.configured := rfl
@[simp] theorem setResult_err (w : Word) : (s.setResult w).err = s.err := rfl
@[simp] theorem setResult_overrun (w : Word) : (s.setResult w).overrun = s.overrun := rfl
@[simp] theorem setResult_errCode (w : Word) : (s.setResult w).errCode = s.errCode := rfl
@[simp] theorem setResult_result (w : Word) : (s.setResult w).result = w := rfl
@[simp] theorem setResult_key (w : Word) : (s.setResult w).key = s.key := rfl
@[simp] theorem setResult_payload (w : Word) : (s.setResult w).payload = s.payload := rfl
@[simp] theorem setResult_din (w : Word) : (s.setResult w).din = s.din := rfl
@[simp] theorem setResult_dout (w : Word) : (s.setResult w).dout = s.dout := rfl
@[simp] theorem setResult_ctr (w : Word) : (s.setResult w).ctr = s.ctr := rfl
@[simp] theorem setResult_aKey (w : Word) : (s.setResult w).aKey = s.aKey := rfl
@[simp] theorem setResult_aVariant (w : Word) : (s.setResult w).aVariant = s.aVariant := rfl
@[simp] theorem setResult_aTol (w : Word) : (s.setResult w).aTol = s.aTol := rfl
@[simp] theorem setResult_aPayload (w : Word) : (s.setResult w).aPayload = s.aPayload := rfl
@[simp] theorem setResult_pending (w : Word) : (s.setResult w).pending = s.pending := rfl
@[simp] theorem setResult_host (w : Word) : (s.setResult w).host = s.host := rfl
@[simp] theorem setResult_reads (w : Word) : (s.setResult w).reads = s.reads := rfl
@[simp] theorem setResult_draws (w : Word) : (s.setResult w).draws = s.draws := rfl

@[simp] theorem setCtr_ctrl (c : Counter) : (s.setCtr c).ctrl = s.ctrl := rfl
@[simp] theorem setCtr_configured (c : Counter) : (s.setCtr c).configured = s.configured := rfl
@[simp] theorem setCtr_err (c : Counter) : (s.setCtr c).err = s.err := rfl
@[simp] theorem setCtr_overrun (c : Counter) : (s.setCtr c).overrun = s.overrun := rfl
@[simp] theorem setCtr_errCode (c : Counter) : (s.setCtr c).errCode = s.errCode := rfl
@[simp] theorem setCtr_result (c : Counter) : (s.setCtr c).result = s.result := rfl
@[simp] theorem setCtr_key (c : Counter) : (s.setCtr c).key = s.key := rfl
@[simp] theorem setCtr_payload (c : Counter) : (s.setCtr c).payload = s.payload := rfl
@[simp] theorem setCtr_din (c : Counter) : (s.setCtr c).din = s.din := rfl
@[simp] theorem setCtr_dout (c : Counter) : (s.setCtr c).dout = s.dout := rfl
@[simp] theorem setCtr_ctr (c : Counter) : (s.setCtr c).ctr = c := rfl
@[simp] theorem setCtr_aKey (c : Counter) : (s.setCtr c).aKey = s.aKey := rfl
@[simp] theorem setCtr_aVariant (c : Counter) : (s.setCtr c).aVariant = s.aVariant := rfl
@[simp] theorem setCtr_aTol (c : Counter) : (s.setCtr c).aTol = s.aTol := rfl
@[simp] theorem setCtr_aPayload (c : Counter) : (s.setCtr c).aPayload = s.aPayload := rfl
@[simp] theorem setCtr_pending (c : Counter) : (s.setCtr c).pending = s.pending := rfl
@[simp] theorem setCtr_host (c : Counter) : (s.setCtr c).host = s.host := rfl
@[simp] theorem setCtr_reads (c : Counter) : (s.setCtr c).reads = s.reads := rfl
@[simp] theorem setCtr_draws (c : Counter) : (s.setCtr c).draws = s.draws := rfl

@[simp] theorem dropPair_ctrl : s.dropPair.ctrl = s.ctrl := rfl
@[simp] theorem dropPair_configured : s.dropPair.configured = false := rfl
@[simp] theorem dropPair_err : s.dropPair.err = s.err := rfl
@[simp] theorem dropPair_overrun : s.dropPair.overrun = s.overrun := rfl
@[simp] theorem dropPair_errCode : s.dropPair.errCode = s.errCode := rfl
@[simp] theorem dropPair_result : s.dropPair.result = s.result := rfl
@[simp] theorem dropPair_key : s.dropPair.key = s.key := rfl
@[simp] theorem dropPair_payload : s.dropPair.payload = s.payload := rfl
@[simp] theorem dropPair_din : s.dropPair.din = s.din := rfl
@[simp] theorem dropPair_dout : s.dropPair.dout = s.dout := rfl
@[simp] theorem dropPair_ctr : s.dropPair.ctr = s.ctr := rfl
@[simp] theorem dropPair_aKey : s.dropPair.aKey = s.aKey := rfl
@[simp] theorem dropPair_aVariant : s.dropPair.aVariant = s.aVariant := rfl
@[simp] theorem dropPair_aTol : s.dropPair.aTol = s.aTol := rfl
@[simp] theorem dropPair_aPayload : s.dropPair.aPayload = s.aPayload := rfl
@[simp] theorem dropPair_pending : s.dropPair.pending = s.pending := rfl
@[simp] theorem dropPair_host : s.dropPair.host = s.host := rfl
@[simp] theorem dropPair_reads : s.dropPair.reads = s.reads := rfl
@[simp] theorem dropPair_draws : s.dropPair.draws = s.draws := rfl

@[simp] theorem latchPair_ctrl : s.latchPair.ctrl = s.ctrl := rfl
@[simp] theorem latchPair_configured : s.latchPair.configured = true := rfl
@[simp] theorem latchPair_err : s.latchPair.err = s.err := rfl
@[simp] theorem latchPair_overrun : s.latchPair.overrun = s.overrun := rfl
@[simp] theorem latchPair_errCode : s.latchPair.errCode = s.errCode := rfl
@[simp] theorem latchPair_result : s.latchPair.result = 0#32 := rfl
@[simp] theorem latchPair_key : s.latchPair.key = s.key := rfl
@[simp] theorem latchPair_payload : s.latchPair.payload = s.payload := rfl
@[simp] theorem latchPair_din : s.latchPair.din = s.din := rfl
@[simp] theorem latchPair_dout : s.latchPair.dout = ⟨0#32, 0#32, 0#32, 0#32⟩ := rfl
@[simp] theorem latchPair_ctr : s.latchPair.ctr = 0#128 := rfl
@[simp] theorem latchPair_aKey : s.latchPair.aKey = operandKey s := rfl
@[simp] theorem latchPair_aVariant : s.latchPair.aVariant = ctrlVariant s := rfl
@[simp] theorem latchPair_aTol : s.latchPair.aTol = ctrlTolerance s := rfl
@[simp] theorem latchPair_aPayload : s.latchPair.aPayload = operandStagedPayload s := rfl
@[simp] theorem latchPair_pending : s.latchPair.pending = s.pending := rfl
@[simp] theorem latchPair_host : s.latchPair.host = s.host := rfl
@[simp] theorem latchPair_reads : s.latchPair.reads = s.reads := rfl
@[simp] theorem latchPair_draws : s.latchPair.draws = s.draws := rfl

@[simp] theorem setOverrun_ctrl (b : Bool) : (s.setOverrun b).ctrl = s.ctrl := rfl
@[simp] theorem setOverrun_configured (b : Bool) : (s.setOverrun b).configured = s.configured := rfl
@[simp] theorem setOverrun_err (b : Bool) : (s.setOverrun b).err = s.err := rfl
@[simp] theorem setOverrun_overrun (b : Bool) : (s.setOverrun b).overrun = b := rfl
@[simp] theorem setOverrun_errCode (b : Bool) : (s.setOverrun b).errCode = s.errCode := rfl
@[simp] theorem setOverrun_result (b : Bool) : (s.setOverrun b).result = s.result := rfl
@[simp] theorem setOverrun_key (b : Bool) : (s.setOverrun b).key = s.key := rfl
@[simp] theorem setOverrun_payload (b : Bool) : (s.setOverrun b).payload = s.payload := rfl
@[simp] theorem setOverrun_din (b : Bool) : (s.setOverrun b).din = s.din := rfl
@[simp] theorem setOverrun_dout (b : Bool) : (s.setOverrun b).dout = s.dout := rfl
@[simp] theorem setOverrun_ctr (b : Bool) : (s.setOverrun b).ctr = s.ctr := rfl
@[simp] theorem setOverrun_aKey (b : Bool) : (s.setOverrun b).aKey = s.aKey := rfl
@[simp] theorem setOverrun_aVariant (b : Bool) : (s.setOverrun b).aVariant = s.aVariant := rfl
@[simp] theorem setOverrun_aTol (b : Bool) : (s.setOverrun b).aTol = s.aTol := rfl
@[simp] theorem setOverrun_aPayload (b : Bool) : (s.setOverrun b).aPayload = s.aPayload := rfl
@[simp] theorem setOverrun_pending (b : Bool) : (s.setOverrun b).pending = s.pending := rfl
@[simp] theorem setOverrun_host (b : Bool) : (s.setOverrun b).host = s.host := rfl
@[simp] theorem setOverrun_reads (b : Bool) : (s.setOverrun b).reads = s.reads := rfl
@[simp] theorem setOverrun_draws (b : Bool) : (s.setOverrun b).draws = s.draws := rfl

@[simp] theorem storeCtrl_ctrl (w : Word) : (s.storeCtrl w).ctrl = w &&& Config.ctrlMask := rfl
@[simp] theorem storeCtrl_configured (w : Word) : (s.storeCtrl w).configured = s.configured := rfl
@[simp] theorem storeCtrl_err (w : Word) : (s.storeCtrl w).err = s.err := rfl
@[simp] theorem storeCtrl_overrun (w : Word) : (s.storeCtrl w).overrun = s.overrun := rfl
@[simp] theorem storeCtrl_errCode (w : Word) : (s.storeCtrl w).errCode = s.errCode := rfl
@[simp] theorem storeCtrl_result (w : Word) : (s.storeCtrl w).result = s.result := rfl
@[simp] theorem storeCtrl_key (w : Word) : (s.storeCtrl w).key = s.key := rfl
@[simp] theorem storeCtrl_payload (w : Word) : (s.storeCtrl w).payload = s.payload := rfl
@[simp] theorem storeCtrl_din (w : Word) : (s.storeCtrl w).din = s.din := rfl
@[simp] theorem storeCtrl_dout (w : Word) : (s.storeCtrl w).dout = s.dout := rfl
@[simp] theorem storeCtrl_ctr (w : Word) : (s.storeCtrl w).ctr = s.ctr := rfl
@[simp] theorem storeCtrl_aKey (w : Word) : (s.storeCtrl w).aKey = s.aKey := rfl
@[simp] theorem storeCtrl_aVariant (w : Word) : (s.storeCtrl w).aVariant = s.aVariant := rfl
@[simp] theorem storeCtrl_aTol (w : Word) : (s.storeCtrl w).aTol = s.aTol := rfl
@[simp] theorem storeCtrl_aPayload (w : Word) : (s.storeCtrl w).aPayload = s.aPayload := rfl
@[simp] theorem storeCtrl_pending (w : Word) : (s.storeCtrl w).pending = s.pending := rfl
@[simp] theorem storeCtrl_host (w : Word) : (s.storeCtrl w).host = s.host := rfl
@[simp] theorem storeCtrl_reads (w : Word) : (s.storeCtrl w).reads = s.reads := rfl
@[simp] theorem storeCtrl_draws (w : Word) : (s.storeCtrl w).draws = s.draws := rfl

@[simp] theorem storeKey_ctrl (i : Fin 4) (w : Word) : (s.storeKey i w).ctrl = s.ctrl := rfl
@[simp] theorem storeKey_configured (i : Fin 4) (w : Word) : (s.storeKey i w).configured = s.configured := rfl
@[simp] theorem storeKey_err (i : Fin 4) (w : Word) : (s.storeKey i w).err = s.err := rfl
@[simp] theorem storeKey_overrun (i : Fin 4) (w : Word) : (s.storeKey i w).overrun = s.overrun := rfl
@[simp] theorem storeKey_errCode (i : Fin 4) (w : Word) : (s.storeKey i w).errCode = s.errCode := rfl
@[simp] theorem storeKey_result (i : Fin 4) (w : Word) : (s.storeKey i w).result = s.result := rfl
@[simp] theorem storeKey_key (i : Fin 4) (w : Word) : (s.storeKey i w).key = quadSet s.key i w := rfl
@[simp] theorem storeKey_payload (i : Fin 4) (w : Word) : (s.storeKey i w).payload = s.payload := rfl
@[simp] theorem storeKey_din (i : Fin 4) (w : Word) : (s.storeKey i w).din = s.din := rfl
@[simp] theorem storeKey_dout (i : Fin 4) (w : Word) : (s.storeKey i w).dout = s.dout := rfl
@[simp] theorem storeKey_ctr (i : Fin 4) (w : Word) : (s.storeKey i w).ctr = s.ctr := rfl
@[simp] theorem storeKey_aKey (i : Fin 4) (w : Word) : (s.storeKey i w).aKey = s.aKey := rfl
@[simp] theorem storeKey_aVariant (i : Fin 4) (w : Word) : (s.storeKey i w).aVariant = s.aVariant := rfl
@[simp] theorem storeKey_aTol (i : Fin 4) (w : Word) : (s.storeKey i w).aTol = s.aTol := rfl
@[simp] theorem storeKey_aPayload (i : Fin 4) (w : Word) : (s.storeKey i w).aPayload = s.aPayload := rfl
@[simp] theorem storeKey_pending (i : Fin 4) (w : Word) : (s.storeKey i w).pending = s.pending := rfl
@[simp] theorem storeKey_host (i : Fin 4) (w : Word) : (s.storeKey i w).host = s.host := rfl
@[simp] theorem storeKey_reads (i : Fin 4) (w : Word) : (s.storeKey i w).reads = s.reads := rfl
@[simp] theorem storeKey_draws (i : Fin 4) (w : Word) : (s.storeKey i w).draws = s.draws := rfl

@[simp] theorem storePayload_ctrl (w : Word) : (s.storePayload w).ctrl = s.ctrl := rfl
@[simp] theorem storePayload_configured (w : Word) : (s.storePayload w).configured = s.configured := rfl
@[simp] theorem storePayload_err (w : Word) : (s.storePayload w).err = s.err := rfl
@[simp] theorem storePayload_overrun (w : Word) : (s.storePayload w).overrun = s.overrun := rfl
@[simp] theorem storePayload_errCode (w : Word) : (s.storePayload w).errCode = s.errCode := rfl
@[simp] theorem storePayload_result (w : Word) : (s.storePayload w).result = s.result := rfl
@[simp] theorem storePayload_key (w : Word) : (s.storePayload w).key = s.key := rfl
@[simp] theorem storePayload_payload (w : Word) : (s.storePayload w).payload = w &&& Config.klqPayloadMask := rfl
@[simp] theorem storePayload_din (w : Word) : (s.storePayload w).din = s.din := rfl
@[simp] theorem storePayload_dout (w : Word) : (s.storePayload w).dout = s.dout := rfl
@[simp] theorem storePayload_ctr (w : Word) : (s.storePayload w).ctr = s.ctr := rfl
@[simp] theorem storePayload_aKey (w : Word) : (s.storePayload w).aKey = s.aKey := rfl
@[simp] theorem storePayload_aVariant (w : Word) : (s.storePayload w).aVariant = s.aVariant := rfl
@[simp] theorem storePayload_aTol (w : Word) : (s.storePayload w).aTol = s.aTol := rfl
@[simp] theorem storePayload_aPayload (w : Word) : (s.storePayload w).aPayload = s.aPayload := rfl
@[simp] theorem storePayload_pending (w : Word) : (s.storePayload w).pending = s.pending := rfl
@[simp] theorem storePayload_host (w : Word) : (s.storePayload w).host = s.host := rfl
@[simp] theorem storePayload_reads (w : Word) : (s.storePayload w).reads = s.reads := rfl
@[simp] theorem storePayload_draws (w : Word) : (s.storePayload w).draws = s.draws := rfl

@[simp] theorem storeDin_ctrl (i : Fin 4) (w : Word) : (s.storeDin i w).ctrl = s.ctrl := rfl
@[simp] theorem storeDin_configured (i : Fin 4) (w : Word) : (s.storeDin i w).configured = s.configured := rfl
@[simp] theorem storeDin_err (i : Fin 4) (w : Word) : (s.storeDin i w).err = s.err := rfl
@[simp] theorem storeDin_overrun (i : Fin 4) (w : Word) : (s.storeDin i w).overrun = s.overrun := rfl
@[simp] theorem storeDin_errCode (i : Fin 4) (w : Word) : (s.storeDin i w).errCode = s.errCode := rfl
@[simp] theorem storeDin_result (i : Fin 4) (w : Word) : (s.storeDin i w).result = s.result := rfl
@[simp] theorem storeDin_key (i : Fin 4) (w : Word) : (s.storeDin i w).key = s.key := rfl
@[simp] theorem storeDin_payload (i : Fin 4) (w : Word) : (s.storeDin i w).payload = s.payload := rfl
@[simp] theorem storeDin_din (i : Fin 4) (w : Word) : (s.storeDin i w).din = quadSet s.din i w := rfl
@[simp] theorem storeDin_dout (i : Fin 4) (w : Word) : (s.storeDin i w).dout = s.dout := rfl
@[simp] theorem storeDin_ctr (i : Fin 4) (w : Word) : (s.storeDin i w).ctr = s.ctr := rfl
@[simp] theorem storeDin_aKey (i : Fin 4) (w : Word) : (s.storeDin i w).aKey = s.aKey := rfl
@[simp] theorem storeDin_aVariant (i : Fin 4) (w : Word) : (s.storeDin i w).aVariant = s.aVariant := rfl
@[simp] theorem storeDin_aTol (i : Fin 4) (w : Word) : (s.storeDin i w).aTol = s.aTol := rfl
@[simp] theorem storeDin_aPayload (i : Fin 4) (w : Word) : (s.storeDin i w).aPayload = s.aPayload := rfl
@[simp] theorem storeDin_pending (i : Fin 4) (w : Word) : (s.storeDin i w).pending = s.pending := rfl
@[simp] theorem storeDin_host (i : Fin 4) (w : Word) : (s.storeDin i w).host = s.host := rfl
@[simp] theorem storeDin_reads (i : Fin 4) (w : Word) : (s.storeDin i w).reads = s.reads := rfl
@[simp] theorem storeDin_draws (i : Fin 4) (w : Word) : (s.storeDin i w).draws = s.draws := rfl

@[simp] theorem setHost_ctrl (l : List HostOp) : (s.setHost l).ctrl = s.ctrl := rfl
@[simp] theorem setHost_configured (l : List HostOp) : (s.setHost l).configured = s.configured := rfl
@[simp] theorem setHost_err (l : List HostOp) : (s.setHost l).err = s.err := rfl
@[simp] theorem setHost_overrun (l : List HostOp) : (s.setHost l).overrun = s.overrun := rfl
@[simp] theorem setHost_errCode (l : List HostOp) : (s.setHost l).errCode = s.errCode := rfl
@[simp] theorem setHost_result (l : List HostOp) : (s.setHost l).result = s.result := rfl
@[simp] theorem setHost_key (l : List HostOp) : (s.setHost l).key = s.key := rfl
@[simp] theorem setHost_payload (l : List HostOp) : (s.setHost l).payload = s.payload := rfl
@[simp] theorem setHost_din (l : List HostOp) : (s.setHost l).din = s.din := rfl
@[simp] theorem setHost_dout (l : List HostOp) : (s.setHost l).dout = s.dout := rfl
@[simp] theorem setHost_ctr (l : List HostOp) : (s.setHost l).ctr = s.ctr := rfl
@[simp] theorem setHost_aKey (l : List HostOp) : (s.setHost l).aKey = s.aKey := rfl
@[simp] theorem setHost_aVariant (l : List HostOp) : (s.setHost l).aVariant = s.aVariant := rfl
@[simp] theorem setHost_aTol (l : List HostOp) : (s.setHost l).aTol = s.aTol := rfl
@[simp] theorem setHost_aPayload (l : List HostOp) : (s.setHost l).aPayload = s.aPayload := rfl
@[simp] theorem setHost_pending (l : List HostOp) : (s.setHost l).pending = s.pending := rfl
@[simp] theorem setHost_host (l : List HostOp) : (s.setHost l).host = l := rfl
@[simp] theorem setHost_reads (l : List HostOp) : (s.setHost l).reads = s.reads := rfl
@[simp] theorem setHost_draws (l : List HostOp) : (s.setHost l).draws = s.draws := rfl

@[simp] theorem logRead_ctrl (v : Word) : (s.logRead v).ctrl = s.ctrl := rfl
@[simp] theorem logRead_configured (v : Word) : (s.logRead v).configured = s.configured := rfl
@[simp] theorem logRead_err (v : Word) : (s.logRead v).err = s.err := rfl
@[simp] theorem logRead_overrun (v : Word) : (s.logRead v).overrun = s.overrun := rfl
@[simp] theorem logRead_errCode (v : Word) : (s.logRead v).errCode = s.errCode := rfl
@[simp] theorem logRead_result (v : Word) : (s.logRead v).result = s.result := rfl
@[simp] theorem logRead_key (v : Word) : (s.logRead v).key = s.key := rfl
@[simp] theorem logRead_payload (v : Word) : (s.logRead v).payload = s.payload := rfl
@[simp] theorem logRead_din (v : Word) : (s.logRead v).din = s.din := rfl
@[simp] theorem logRead_dout (v : Word) : (s.logRead v).dout = s.dout := rfl
@[simp] theorem logRead_ctr (v : Word) : (s.logRead v).ctr = s.ctr := rfl
@[simp] theorem logRead_aKey (v : Word) : (s.logRead v).aKey = s.aKey := rfl
@[simp] theorem logRead_aVariant (v : Word) : (s.logRead v).aVariant = s.aVariant := rfl
@[simp] theorem logRead_aTol (v : Word) : (s.logRead v).aTol = s.aTol := rfl
@[simp] theorem logRead_aPayload (v : Word) : (s.logRead v).aPayload = s.aPayload := rfl
@[simp] theorem logRead_pending (v : Word) : (s.logRead v).pending = s.pending := rfl
@[simp] theorem logRead_host (v : Word) : (s.logRead v).host = s.host := rfl
@[simp] theorem logRead_reads (v : Word) : (s.logRead v).reads = v :: s.reads := rfl
@[simp] theorem logRead_draws (v : Word) : (s.logRead v).draws = s.draws := rfl

@[simp] theorem draw_ctrl : s.draw.ctrl = s.ctrl := rfl
@[simp] theorem draw_configured : s.draw.configured = s.configured := rfl
@[simp] theorem draw_err : s.draw.err = s.err := rfl
@[simp] theorem draw_overrun : s.draw.overrun = s.overrun := rfl
@[simp] theorem draw_errCode : s.draw.errCode = s.errCode := rfl
@[simp] theorem draw_result : s.draw.result = s.result := rfl
@[simp] theorem draw_key : s.draw.key = s.key := rfl
@[simp] theorem draw_payload : s.draw.payload = s.payload := rfl
@[simp] theorem draw_din : s.draw.din = s.din := rfl
@[simp] theorem draw_dout : s.draw.dout = s.dout := rfl
@[simp] theorem draw_ctr : s.draw.ctr = s.ctr := rfl
@[simp] theorem draw_aKey : s.draw.aKey = s.aKey := rfl
@[simp] theorem draw_aVariant : s.draw.aVariant = s.aVariant := rfl
@[simp] theorem draw_aTol : s.draw.aTol = s.aTol := rfl
@[simp] theorem draw_aPayload : s.draw.aPayload = s.aPayload := rfl
@[simp] theorem draw_pending : s.draw.pending = s.pending := rfl
@[simp] theorem draw_host : s.draw.host = s.host := rfl
@[simp] theorem draw_reads : s.draw.reads = s.reads := rfl
@[simp] theorem draw_draws : s.draw.draws = s.draws + 1 := rfl

@[simp] theorem tick_ctrl : s.tick.ctrl = s.ctrl := rfl
@[simp] theorem tick_configured : s.tick.configured = s.configured := rfl
@[simp] theorem tick_err : s.tick.err = s.err := rfl
@[simp] theorem tick_overrun : s.tick.overrun = s.overrun := rfl
@[simp] theorem tick_errCode : s.tick.errCode = s.errCode := rfl
@[simp] theorem tick_result : s.tick.result = s.result := rfl
@[simp] theorem tick_key : s.tick.key = s.key := rfl
@[simp] theorem tick_payload : s.tick.payload = s.payload := rfl
@[simp] theorem tick_din : s.tick.din = s.din := rfl
@[simp] theorem tick_dout : s.tick.dout = s.dout := rfl
@[simp] theorem tick_ctr : s.tick.ctr = s.ctr := rfl
@[simp] theorem tick_aKey : s.tick.aKey = s.aKey := rfl
@[simp] theorem tick_aVariant : s.tick.aVariant = s.aVariant := rfl
@[simp] theorem tick_aTol : s.tick.aTol = s.aTol := rfl
@[simp] theorem tick_aPayload : s.tick.aPayload = s.aPayload := rfl
@[simp] theorem tick_pending : s.tick.pending = s.pending.map fun p => ⟨p.word, p.wait - 1⟩ := rfl
@[simp] theorem tick_host : s.tick.host = s.host := rfl
@[simp] theorem tick_reads : s.tick.reads = s.reads := rfl
@[simp] theorem tick_draws : s.tick.draws = s.draws := rfl

@[simp] theorem resetBlock_ctrl : s.resetBlock.ctrl = State.reset.ctrl := rfl
@[simp] theorem resetBlock_configured : s.resetBlock.configured = State.reset.configured := rfl
@[simp] theorem resetBlock_err : s.resetBlock.err = State.reset.err := rfl
@[simp] theorem resetBlock_overrun : s.resetBlock.overrun = State.reset.overrun := rfl
@[simp] theorem resetBlock_errCode : s.resetBlock.errCode = State.reset.errCode := rfl
@[simp] theorem resetBlock_result : s.resetBlock.result = State.reset.result := rfl
@[simp] theorem resetBlock_key : s.resetBlock.key = State.reset.key := rfl
@[simp] theorem resetBlock_payload : s.resetBlock.payload = State.reset.payload := rfl
@[simp] theorem resetBlock_din : s.resetBlock.din = State.reset.din := rfl
@[simp] theorem resetBlock_dout : s.resetBlock.dout = State.reset.dout := rfl
@[simp] theorem resetBlock_ctr : s.resetBlock.ctr = State.reset.ctr := rfl
@[simp] theorem resetBlock_aKey : s.resetBlock.aKey = State.reset.aKey := rfl
@[simp] theorem resetBlock_aVariant : s.resetBlock.aVariant = State.reset.aVariant := rfl
@[simp] theorem resetBlock_aTol : s.resetBlock.aTol = State.reset.aTol := rfl
@[simp] theorem resetBlock_aPayload : s.resetBlock.aPayload = State.reset.aPayload := rfl
@[simp] theorem resetBlock_pending : s.resetBlock.pending = State.reset.pending := rfl
@[simp] theorem resetBlock_host : s.resetBlock.host = s.host := rfl
@[simp] theorem resetBlock_reads : s.resetBlock.reads = s.reads := rfl
@[simp] theorem resetBlock_draws : s.resetBlock.draws = s.draws := rfl

/-! ### BUSY after each update that touches it -/

@[simp] theorem finish_busy : s.finish.busy = false := rfl
@[simp] theorem raise_busy (e : ErrorCode) : (s.raise e).busy = false := rfl
@[simp] theorem issue_busy (w : Word) (n : Nat) : (s.issue w n).busy = true := rfl
@[simp] theorem resetBlock_busy : s.resetBlock.busy = false := rfl
@[simp] theorem setDout_busy (q : Quad) : (s.setDout q).busy = s.busy := rfl
@[simp] theorem setResult_busy (w : Word) : (s.setResult w).busy = s.busy := rfl
@[simp] theorem setCtr_busy (c : Counter) : (s.setCtr c).busy = s.busy := rfl
@[simp] theorem dropPair_busy : s.dropPair.busy = s.busy := rfl
@[simp] theorem latchPair_busy : s.latchPair.busy = s.busy := rfl
@[simp] theorem setOverrun_busy (b : Bool) : (s.setOverrun b).busy = s.busy := rfl
@[simp] theorem storeCtrl_busy (w : Word) : (s.storeCtrl w).busy = s.busy := rfl
@[simp] theorem storeKey_busy (i : Fin 4) (w : Word) : (s.storeKey i w).busy = s.busy := rfl
@[simp] theorem storePayload_busy (w : Word) : (s.storePayload w).busy = s.busy := rfl
@[simp] theorem storeDin_busy (i : Fin 4) (w : Word) : (s.storeDin i w).busy = s.busy := rfl
@[simp] theorem setHost_busy (l : List HostOp) : (s.setHost l).busy = s.busy := rfl
@[simp] theorem logRead_busy (v : Word) : (s.logRead v).busy = s.busy := rfl
@[simp] theorem draw_busy : s.draw.busy = s.busy := rfl
@[simp] theorem tick_busy : s.tick.busy = s.busy := by cases h : s.pending <;> simp [busy, h]

end Sys2Proof.Machine.State
end

