-- ==== Sys2Proof/Laws/Commands.lean ====
section
/-! SUPPORT. One lemma per shared operation and per meaning of the Engine that says once everything it can do: if it
answers next t, then one of these cases holds. -/

namespace Sys2Proof.Machine

/-- The error of the pair checks, case by case (R201, R202, R204). -/
theorem pairError_eq_some {need : Option Variant} {s : State} {e : ErrorCode} (h : pairError need s = some e) :
    (s.configured = false ∧ e = .notConfigured) ∨
    (s.configured = true ∧ e = .wrongVariant ∧ ∃ v, need = some v ∧ s.aVariant ≠ v) := by
  unfold pairError at h
  split at h
  · next hc =>
    cases need with
    | none => cases h
    | some v =>
      by_cases hv : s.aVariant = v
      · simp [hv] at h
      · simp only [hv, if_false] at h
        cases h
        exact .inr ⟨hc, rfl, v, rfl, hv⟩
  · next hc =>
    cases h
    exact .inl ⟨by simpa using hc, rfl⟩

/-- No error of the pair checks: the block is configured, with the variant the command needs. -/
theorem pairError_eq_none {need : Option Variant} {s : State} :
    pairError need s = none ↔ s.configured = true ∧ ∀ v, need = some v → s.aVariant = v := by
  unfold pairError
  cases s.configured <;> cases need <;> simp

/-- A command that needs a pair raises the first error of the checks or runs its own rule (R204). -/
theorem withPair_next {need : Option Variant} {s t : State} {body : Result} (h : withPair need s body = .next t) :
    (∃ e, pairError need s = some e ∧ t = s.raise e) ∨ (pairError need s = none ∧ body = .next t) := by
  unfold withPair at h
  split at h
  · next e he => cases h; exact .inl ⟨e, he, rfl⟩
  · next he => exact .inr ⟨he, h⟩

theorem withPair_of_configured {need : Option Variant} {s : State} {body : Result} (hc : s.configured = true)
    (hv : ∀ v, need = some v → s.aVariant = v) : withPair need s body = body := by
  unfold withPair
  rw [pairError_eq_none.2 ⟨hc, hv⟩]

theorem withPair_of_unconfigured {need : Option Variant} {s : State} {body : Result} (hc : s.configured = false) :
    withPair need s body = .next (s.raise .notConfigured) := by
  simp [withPair, pairError, hc]

theorem withPair_of_wrongVariant {v : Variant} {s : State} {body : Result} (hc : s.configured = true)
    (hv : s.aVariant ≠ v) : withPair (some v) s body = .next (s.raise .wrongVariant) := by
  simp [withPair, pairError, hc, hv]

/-- AES_COMPARE of an AES pair is its own rule (R155). -/
theorem execAesCompare_of_pair {s : State} (hc : s.configured = true) (hv : s.aVariant = .aes) :
    execAesCompare s = match aesMatch s.aKey s.ctr s.aTol (operandWide s) with
      | some k =>
        if s.ctr.toNat + k + 1 = 2 ^ 128 then .next (s.raise .counterOverflow)
        else .next ((s.setCtr (BitVec.ofNat 128 (s.ctr.toNat + k + 1))).setResult (resultAccept k)).finish
      | none => .next (s.setResult resultReject).finish := by
  exact withPair_of_configured hc (by rintro _ ⟨⟩; exact hv)

/-- KLQ_RECEIVE of a KeeLoq pair is its own rule (R165). -/
theorem execKlqReceive_of_pair {s : State} (hc : s.configured = true) (hv : s.aVariant = .keeloq) :
    execKlqReceive s = match klqMatch (last s) s.aTol (klqCounterOf (receivedBlock s)) with
      | some i =>
        .next (((s.setDout (quadLow ((klqPayloadOf (receivedBlock s)).setWidth 32))).setCtr
          (setLast s.ctr (klqCounterOf (receivedBlock s)))).setResult (resultAccept i)).finish
      | none => .next ((s.setDout (quadLow 0#32)).setResult resultReject).finish := by
  exact withPair_of_configured hc (by rintro _ ⟨⟩; exact hv)

/-- What a meaning that needs a pair has answered: an error of the checks, or a state of its own. -/
theorem execGenerate_next {s t : State} (h : execGenerate s = .next t) :
    (∃ e, pairError none s = some e ∧ t = s.raise e) ∨
    (pairError none s = none ∧ t = (s.setDout (codeQuad (gen s (generateCounter s)))).finish) := by
  rcases withPair_next h with h | ⟨he, h⟩
  · exact .inl h
  · cases h; exact .inr ⟨he, rfl⟩

theorem execKlqEncrypt_next {s t : State} (h : execKlqEncrypt s = .next t) :
    (∃ e, pairError (some .keeloq) s = some e ∧ t = s.raise e) ∨
    (pairError (some .keeloq) s = none ∧ ∃ q, t = (s.setDout q).finish) := by
  rcases withPair_next h with h | ⟨he, h⟩
  · exact .inl h
  · cases h; exact .inr ⟨he, _, rfl⟩

theorem execKlqDecrypt_next {s t : State} (h : execKlqDecrypt s = .next t) :
    (∃ e, pairError (some .keeloq) s = some e ∧ t = s.raise e) ∨
    (pairError (some .keeloq) s = none ∧ ∃ q, t = (s.setDout q).finish) := by
  rcases withPair_next h with h | ⟨he, h⟩
  · exact .inl h
  · cases h; exact .inr ⟨he, _, rfl⟩

theorem execAesCompare_next {s t : State} (h : execAesCompare s = .next t) :
    (∃ e, pairError (some .aes) s = some e ∧ t = s.raise e) ∨
    (pairError (some .aes) s = none ∧
      ((∃ k, aesMatch s.aKey s.ctr s.aTol (operandWide s) = some k ∧ s.ctr.toNat + k + 1 = 2 ^ 128 ∧
          t = s.raise .counterOverflow) ∨
       (∃ k, aesMatch s.aKey s.ctr s.aTol (operandWide s) = some k ∧ s.ctr.toNat + k + 1 ≠ 2 ^ 128 ∧
          t = ((s.setCtr (BitVec.ofNat 128 (s.ctr.toNat + k + 1))).setResult (resultAccept k)).finish) ∨
       (aesMatch s.aKey s.ctr s.aTol (operandWide s) = none ∧ t = (s.setResult resultReject).finish))) := by
  rcases withPair_next h with h | ⟨he, h⟩
  · exact .inl h
  · refine .inr ⟨he, ?_⟩
    split at h
    · next k hk =>
      split at h
      · next ho => cases h; exact .inl ⟨k, hk, ho, rfl⟩
      · next ho => cases h; exact .inr (.inl ⟨k, hk, ho, rfl⟩)
    · next hk => cases h; exact .inr (.inr ⟨hk, rfl⟩)

theorem execKlqReceive_next {s t : State} (h : execKlqReceive s = .next t) :
    (∃ e, pairError (some .keeloq) s = some e ∧ t = s.raise e) ∨
    (pairError (some .keeloq) s = none ∧
      ((∃ i, klqMatch (last s) s.aTol (klqCounterOf (receivedBlock s)) = some i ∧
          t = (((s.setDout (quadLow ((klqPayloadOf (receivedBlock s)).setWidth 32))).setCtr
            (setLast s.ctr (klqCounterOf (receivedBlock s)))).setResult (resultAccept i)).finish) ∨
       (klqMatch (last s) s.aTol (klqCounterOf (receivedBlock s)) = none ∧
          t = ((s.setDout (quadLow 0#32)).setResult resultReject).finish))) := by
  rcases withPair_next h with h | ⟨he, h⟩
  · exact .inl h
  · refine .inr ⟨he, ?_⟩
    split at h
    · next i hi => cases h; exact .inl ⟨i, hi, rfl⟩
    · next hi => cases h; exact .inr ⟨hi, rfl⟩

theorem execConfigure_next {s t : State} (h : execConfigure s = .next t) :
    (ctrlKeyLen s = requiredKeyBytes (ctrlVariant s) ∧ t = s.latchPair.finish) ∨
    (ctrlKeyLen s ≠ requiredKeyBytes (ctrlVariant s) ∧ t = s.dropPair.raise .invalidKeyLength) := by
  unfold execConfigure at h
  split at h
  · next hk => cases h; exact .inl ⟨hk, rfl⟩
  · next hk => cases h; exact .inr ⟨hk, rfl⟩

theorem execNop_next {s t : State} (h : execNop s = .next t) : t = s.finish := by
  cases h; rfl

/-- Everything a completed command can have done: ended an error of R200, failed or succeeded as CONFIGURE, written DOUT,
RESULT and CTR, or nothing. Each case names the state exactly but for the values written. -/
theorem exec_next {i : Instr} {s t : State} (h : exec i s = .next t) :
    (∃ e, t = s.raise e ∧ e ≠ .noError ∧ e ≠ .invalidKeyLength ∧ e ≠ .illegalCommand) ∨
    (i = .configure ∧ t = s.dropPair.raise .invalidKeyLength) ∨
    (i = .configure ∧ t = s.latchPair.finish) ∨
    (i = .nop ∧ t = s.finish) ∨
    (i ∈ [Instr.generate, .klqEncrypt, .klqDecrypt] ∧ ∃ q, t = (s.setDout q).finish) ∨
    (i = .aesCompare ∧ s.aVariant = .aes ∧
      ∃ k, s.ctr.toNat + k + 1 < 2 ^ 128 ∧ k ≤ s.aTol.toNat ∧
        t = ((s.setCtr (BitVec.ofNat 128 (s.ctr.toNat + k + 1))).setResult (resultAccept k)).finish) ∨
    (i = .aesCompare ∧ t = (s.setResult resultReject).finish) ∨
    (i = .klqReceive ∧ s.aVariant = .keeloq ∧ ∃ q c k,
      t = (((s.setDout q).setCtr (setLast s.ctr c)).setResult (resultAccept k)).finish) ∨
    (i = .klqReceive ∧ ∃ q, t = ((s.setDout q).setResult resultReject).finish) := by
  have pairRaise : ∀ {need e}, pairError need s = some e →
      e ≠ .noError ∧ e ≠ .invalidKeyLength ∧ e ≠ .illegalCommand := by
    intro need e he
    rcases pairError_eq_some he with ⟨-, rfl⟩ | ⟨-, rfl, -⟩ <;> decide
  cases i with
  | nop => exact .inr (.inr (.inr (.inl ⟨rfl, execNop_next h⟩)))
  | configure =>
    rcases execConfigure_next h with ⟨-, ht⟩ | ⟨-, ht⟩
    · exact .inr (.inr (.inl ⟨rfl, ht⟩))
    · exact .inr (.inl ⟨rfl, ht⟩)
  | generate =>
    rcases execGenerate_next h with ⟨e, he, ht⟩ | ⟨-, ht⟩
    · exact .inl ⟨e, ht, pairRaise he⟩
    · exact .inr (.inr (.inr (.inr (.inl ⟨by simp, _, ht⟩))))
  | klqEncrypt =>
    rcases execKlqEncrypt_next h with ⟨e, he, ht⟩ | ⟨-, ht⟩
    · exact .inl ⟨e, ht, pairRaise he⟩
    · exact .inr (.inr (.inr (.inr (.inl ⟨by simp, ht⟩))))
  | klqDecrypt =>
    rcases execKlqDecrypt_next h with ⟨e, he, ht⟩ | ⟨-, ht⟩
    · exact .inl ⟨e, ht, pairRaise he⟩
    · exact .inr (.inr (.inr (.inr (.inl ⟨by simp, ht⟩))))
  | aesCompare =>
    rcases execAesCompare_next h with ⟨e, he, ht⟩ | ⟨hp, h⟩
    · exact .inl ⟨e, ht, pairRaise he⟩
    · have hv := (pairError_eq_none.1 hp).2 _ rfl
      rcases h with ⟨k, -, -, ht⟩ | ⟨k, hk, ho, ht⟩ | ⟨-, ht⟩
      · exact .inl ⟨_, ht, by decide, by decide, by decide⟩
      · rw [aesMatch, leastOffset, List.find?_range_eq_some] at hk
        obtain ⟨hw, hm, -⟩ := hk
        have hlt : s.ctr.toNat + k < 2 ^ 128 := by
          by_contra hge
          simp only [aesCandidate, aesGen_eq, if_neg hge] at hw
          simp at hw
        have hm := List.mem_range.1 hm
        exact .inr (.inr (.inr (.inr (.inr (.inl ⟨rfl, hv, k, by omega, by omega, ht⟩)))))
      · exact .inr (.inr (.inr (.inr (.inr (.inr (.inl ⟨rfl, ht⟩))))))
  | klqReceive =>
    rcases execKlqReceive_next h with ⟨e, he, ht⟩ | ⟨hp, h⟩
    · exact .inl ⟨e, ht, pairRaise he⟩
    · have hv := (pairError_eq_none.1 hp).2 _ rfl
      rcases h with ⟨i, -, ht⟩ | ⟨-, ht⟩
      · exact .inr (.inr (.inr (.inr (.inr (.inr (.inr (.inl ⟨rfl, hv, _, _, _, ht⟩)))))))
      · exact .inr (.inr (.inr (.inr (.inr (.inr (.inr (.inr ⟨rfl, _, ht⟩)))))))

/-- Every command answers a next state, in every state: no command stops the block (R207). -/
theorem exec_answers_next (i : Instr) (s : State) : ∃ t, exec i s = .next t := by
  have pair : ∀ {need} {body : Result}, (∃ t, body = .next t) → ∃ t, withPair need s body = .next t := by
    intro need body hb
    unfold withPair
    split
    · exact ⟨_, rfl⟩
    · exact hb
  cases i with
  | nop => exact ⟨_, rfl⟩
  | configure => simp only [exec, execConfigure]; split <;> exact ⟨_, rfl⟩
  | generate => exact pair ⟨_, rfl⟩
  | klqEncrypt => exact pair ⟨_, rfl⟩
  | klqDecrypt => exact pair ⟨_, rfl⟩
  | aesCompare => apply pair; split; (· split <;> exact ⟨_, rfl⟩); exact ⟨_, rfl⟩
  | klqReceive => apply pair; split <;> exact ⟨_, rfl⟩

/-- The completion of a word is its command or ILLEGAL_COMMAND (R184). -/
theorem completeWord_next {w : Word} {s t : State} (h : completeWord w s = .next t) :
    (∃ i, decode w = .ok i ∧ exec i s = .next t) ∨
    (∃ e, decode w = .error e ∧ t = s.raise .illegalCommand) := by
  unfold completeWord at h
  split at h
  · next i hi => exact .inl ⟨i, hi, h⟩
  · next e he => cases h; exact .inr ⟨e, he, rfl⟩

end Sys2Proof.Machine
end

