-- ==== Sys2Proof/Laws/Matcher.lean ====
section
/-! SUPPORT. The spec lemma of the window search, and the small lemmas of the matcher's operations. -/

namespace Sys2Proof.Machine

/-- The search answers an offset exactly if it matches, lies in 0..tol and no smaller one matches (R153, R161). -/
theorem leastOffset_eq_some {tol : Tolerance} {m : Nat → Bool} {k : Nat} :
    leastOffset tol m = some k ↔ m k = true ∧ k ≤ tol.toNat ∧ ∀ j < k, m j = false := by
  unfold leastOffset
  rw [List.find?_range_eq_some]
  simp only [List.mem_range, Bool.not_eq_true', Nat.lt_succ_iff]

/-- The search answers nothing exactly if no offset in 0..tol matches. -/
theorem leastOffset_eq_none {tol : Tolerance} {m : Nat → Bool} :
    leastOffset tol m = none ↔ ∀ k ≤ tol.toNat, m k = false := by
  unfold leastOffset
  rw [List.find?_range_eq_none]
  simp only [Bool.not_eq_true', Nat.lt_succ_iff]

/-- A candidate has a code exactly if its counter is below 2^128, and then it is the counter's code (R151, R152). -/
theorem aesCandidate_eq_some {K : AesKey} {c : Counter} {k : Nat} {r : AesBlock} :
    aesCandidate K c k = some r ↔ c.toNat + k < 2 ^ 128 ∧ aes128 K (BitVec.ofNat 128 (c.toNat + k)) = r := by
  rw [aesCandidate, aesGen_eq]
  by_cases h : c.toNat + k < 2 ^ 128
  · simp only [h, ↓reduceIte, Option.some.injEq, true_and]
  · simp only [h, ↓reduceIte, reduceCtorEq, false_and]

/-- A KeeLoq candidate is `(LAST + i) mod 16` (R161). -/
@[simp] theorem klqCandidate_toNat (l : KlqCounter) (i : Nat) : (klqCandidate l i).toNat = (l.toNat + i) % 16 := by
  simp [klqCandidate_eq]

/-- LAST after CTR[3:0] has been replaced. -/
@[simp] theorem setLast_low (c : Counter) (e : KlqCounter) : (setLast c e).extractLsb' 0 4 = e := by
  apply BitVec.eq_of_getLsbD_eq
  intro i hi
  rw [BitVec.getLsbD_extractLsb', setLast_eq, BitVec.getLsbD_append]
  simp [hi]

/-- CTR[127:4] after CTR[3:0] has been replaced. -/
@[simp] theorem setLast_high (c : Counter) (e : KlqCounter) :
    (setLast c e).extractLsb' 4 124 = c.extractLsb' 4 124 := by
  apply BitVec.eq_of_getLsbD_eq
  intro i hi
  rw [BitVec.getLsbD_extractLsb', setLast_eq, BitVec.getLsbD_append]
  simp

end Sys2Proof.Machine
end

