-- ==== Sys2Proof/Laws/PerInstr.lean ====
section
/-! SUPPORT. What is said of every command as syntax, one lemma per constructor of Instr. -/

namespace Sys2Proof.Laws.Encoding

/-- The command is well formed, its word is well formed and is one row of the opcode map, and the word decodes to it
(30_encoding.md rules R70 to R72). -/
def Statement (i : Instr) : Prop :=
  i.wellFormed = true ∧ wordWellFormed (encode i) = true ∧ (encode i).extractLsb' 0 8 = opcode i ∧ decode (encode i) = .ok i

theorem nop : Statement .nop := ⟨rfl, rfl, rfl, rfl⟩

theorem configure : Statement .configure := ⟨rfl, rfl, rfl, rfl⟩

theorem generate : Statement .generate := ⟨rfl, rfl, rfl, rfl⟩

theorem aesCompare : Statement .aesCompare := ⟨rfl, rfl, rfl, rfl⟩

theorem klqReceive : Statement .klqReceive := ⟨rfl, rfl, rfl, rfl⟩

theorem klqEncrypt : Statement .klqEncrypt := ⟨rfl, rfl, rfl, rfl⟩

theorem klqDecrypt : Statement .klqDecrypt := ⟨rfl, rfl, rfl, rfl⟩

end Sys2Proof.Laws.Encoding
end

