-- ==== Sys2Proof/Laws/Words.lean ====
section
/-! SUPPORT. The small lemmas of the word-level definitions: quads, the register map, the fields of STATUS and RESULT. -/

namespace Sys2Proof.Machine

/-! ### Quads (R52) -/

@[simp] theorem quadWord_quadSet_same (q : Quad) (i : Fin 4) (v : Word) : quadWord (quadSet q i v) i = v := by
  fin_cases i <;> rfl

theorem quadWord_quadSet_ne (q : Quad) {i j : Fin 4} (h : j ≠ i) (v : Word) :
    quadWord (quadSet q i v) j = quadWord q j := by
  fin_cases i <;> fin_cases j <;> first | rfl | exact absurd rfl h

theorem quadWide_getLsbD (q : Quad) (i : Nat) :
    (quadWide q).getLsbD i =
      if i < 32 then q.x3.getLsbD i
      else if i < 64 then q.x2.getLsbD (i - 32)
      else if i < 96 then q.x1.getLsbD (i - 64)
      else q.x0.getLsbD (i - 96) := by
  have h1 : i - 32 - 32 = i - 64 := by omega
  have h2 : i - 64 - 32 = i - 96 := by omega
  simp only [quadWide, BitVec.getLsbD_append, h1, h2]
  split_ifs <;> first | rfl | omega

@[simp] theorem quadWide_wideQuad (v : Wide) : quadWide (wideQuad v) = v := by
  apply BitVec.eq_of_getLsbD_eq
  intro i hi
  rw [quadWide_getLsbD]
  simp only [wideQuad, BitVec.getLsbD_extractLsb']
  split_ifs with h1 h2 h3
  · simp [h1]
  · rw [decide_eq_true (by omega : i - 32 < 32), Bool.true_and]; congr 1; omega
  · rw [decide_eq_true (by omega : i - 64 < 32), Bool.true_and]; congr 1; omega
  · rw [decide_eq_true (by omega : i - 96 < 32), Bool.true_and]; congr 1; omega

/-- Register i of a quad is bits 127 - 32 * i down to 96 - 32 * i of its 128-bit value (R52). -/
theorem quadWord_eq_extract (q : Quad) (i : Fin 4) : quadWord q i = (quadWide q).extractLsb' (96 - 32 * i.val) 32 := by
  apply BitVec.eq_of_getLsbD_eq
  intro k hk
  rw [BitVec.getLsbD_extractLsb', quadWide_getLsbD, decide_eq_true hk, Bool.true_and]
  fin_cases i <;> simp only [quadWord] <;> split_ifs <;> first | omega | (congr 1; omega)

/-! ### The register map (R51) -/

@[simp] theorem windowReg_regOffset (r : WindowReg) : windowReg (regOffset r) = some r := by
  cases r with
  | ctrl => rfl
  | cmd => rfl
  | status => rfl
  | result => rfl
  | payload => rfl
  | key i => fin_cases i <;> rfl
  | din i => fin_cases i <;> rfl
  | dout i => fin_cases i <;> rfl
  | ctr i => fin_cases i <;> rfl

/-- The register of an offset has that offset: two offsets never name one register. -/
theorem regOffset_of_windowReg : ∀ (o : Offset) (r : WindowReg), windowReg o = some r → regOffset r = o := by
  have h : ∀ o : Offset, (windowReg o).elim true (fun r => decide (regOffset r = o)) = true := by decide +kernel
  intro o r hr
  simpa [hr] using h o

@[simp] theorem readWindow_regOffset (r : WindowReg) (s : State) : readWindow (regOffset r) s = readReg r s := by
  simp [readWindow]

/-- An address in the window gives back its offset (R50). -/
@[simp] theorem busOffset_busAddress (o : Offset) : busOffset (busAddress o) = some o := by
  have hlt := o.isLt
  have h : Config.base ≤ busAddress o ∧ busAddress o < Config.base + Config.window := by
    have hw : Config.window = 256 := rfl
    unfold busAddress
    omega
  rw [busOffset, if_pos h]
  simp [busAddress]

/-! ### RESULT (R27) -/

@[simp] theorem resultWord_accept (a : Bool) (k : BitVec 8) : (resultWord a k).getLsbD 0 = a := by
  revert k; cases a <;> decide +kernel

@[simp] theorem resultWord_offset (a : Bool) (k : BitVec 8) : (resultWord a k).extractLsb' 8 8 = k := by
  apply BitVec.eq_of_getLsbD_eq
  intro i hi
  simp only [resultWord, BitVec.getLsbD_extractLsb', BitVec.getLsbD_append]
  simp [hi, show ¬ (8 + i < 1) by omega, show 8 + i - 1 = 7 + i by omega, show ¬ (7 + i < 7) by omega,
    show 7 + i - 7 = i by omega]

theorem resultWord_reserved (a : Bool) (k : BitVec 8) : resultWord a k &&& 0xFFFF00FE#32 = 0#32 := by
  revert k; cases a <;> decide +kernel

end Sys2Proof.Machine
end

