-- ==== Sys2Proof/Laws/Steps.lean ====
section
/-! SUPPORT. What the Host's step and the machine's step can do, said once. -/

namespace Sys2Proof.Machine

/-- A read only logs a value and may draw one (R57, R59). -/
theorem busRead_eq (o : Offset) (s : State) :
    (busRead o s = s.logRead (readWindow o s) ∧ readUnspecified o s = false) ∨
    (busRead o s = s.draw.logRead (Config.busyRead s.draws) ∧ readUnspecified o s = true) := by
  unfold busRead
  cases h : readUnspecified o s
  · exact .inl ⟨by simp, rfl⟩
  · exact .inr ⟨by simp, rfl⟩

/-- A write while BUSY sets OVERRUN and nothing else (R248). -/
theorem busWrite_of_busy {s : State} (h : s.busy = true) (o : Offset) (v : Word) :
    busWrite o v s = s.setOverrun true := by
  simp [busWrite, h]

/-- A write of a register while BUSY = 0. -/
theorem busWrite_of_idle {s : State} (h : s.busy = false) (r : WindowReg) (v : Word) :
    busWrite (regOffset r) v s = writeReg r v s := by
  simp [busWrite, h]

/-- Everything a well-formed write can do. -/
theorem busWrite_cases (o : Offset) (v : Word) (s : State) :
    (s.busy = true ∧ busWrite o v s = s.setOverrun true) ∨
    (s.busy = false ∧ windowReg o = none ∧ busWrite o v s = s) ∨
    (s.busy = false ∧ ∃ r, windowReg o = some r ∧ busWrite o v s = writeReg r v s) := by
  unfold busWrite
  cases hb : s.busy
  · cases hr : windowReg o
    · exact .inr (.inl ⟨rfl, rfl, by simp⟩)
    · exact .inr (.inr ⟨rfl, _, rfl, by simp⟩)
  · exact .inl ⟨rfl, by simp⟩

/-- A well-formed read is the read of the window (R54, R57). -/
theorem hostOp_read {o : Offset} (h : o.toNat % 4 = 0) (s : State) :
    hostOp (.read o .bits32) s = .next (busRead o s) := by
  simp [hostOp, accessWellFormed, h]

/-- A well-formed write is the write of the window (R54, R55). -/
theorem hostOp_write {o : Offset} (h : o.toNat % 4 = 0) (v : Word) (s : State) :
    hostOp (.write o .bits32 v) s = .next (busWrite o v s) := by
  simp [hostOp, accessWellFormed, h]

/-- A malformed access is the Host's bus error (R54). -/
theorem hostOp_malformed {o : Offset} {width : AccessWidth} (h : ¬ (width = .bits32 ∧ o.toNat % 4 = 0)) (v : Word)
    (s : State) :
    hostOp (.read o width) s = .fault (.busError o width) ∧ hostOp (.write o width v) s = .fault (.busError o width) := by
  have hw : accessWellFormed o width = false := by
    rw [Bool.eq_false_iff]
    intro h'
    exact h (by simpa [accessWellFormed] using h')
  simp [hostOp, hw]

/-- Everything the Host's step can answer as a next state. -/
theorem hostStep_next {s t : State} (h : hostStep s = .next t) :
    (s.host = [] ∧ t = s) ∨
    (∃ o rest, s.host = .read o .bits32 :: rest ∧ o.toNat % 4 = 0 ∧ t = busRead o (s.setHost rest)) ∨
    (∃ o v rest, s.host = .write o .bits32 v :: rest ∧ o.toNat % 4 = 0 ∧ t = busWrite o v (s.setHost rest)) ∨
    (∃ rest, s.host = .poll :: rest ∧ ((s.busy = true ∧ t = s) ∨ (s.busy = false ∧ t = s.setHost rest))) ∨
    (∃ rest, s.host = .reset :: rest ∧ t = (s.setHost rest).resetBlock) := by
  unfold hostStep at h
  cases hh : s.host with
  | nil => rw [hh] at h; cases h; exact .inl ⟨rfl, rfl⟩
  | cons op rest =>
    rw [hh] at h
    cases op with
    | read o w =>
      simp only [hostOp] at h
      split at h
      · next hw =>
        obtain ⟨rfl, ho⟩ : w = .bits32 ∧ o.toNat % 4 = 0 := by simpa [accessWellFormed] using hw
        cases h
        exact .inr (.inl ⟨o, rest, rfl, ho, rfl⟩)
      · cases h
    | write o w v =>
      simp only [hostOp] at h
      split at h
      · next hw =>
        obtain ⟨rfl, ho⟩ : w = .bits32 ∧ o.toNat % 4 = 0 := by simpa [accessWellFormed] using hw
        cases h
        exact .inr (.inr (.inl ⟨o, v, rest, rfl, ho, rfl⟩))
      · cases h
    | poll =>
      refine .inr (.inr (.inr (.inl ⟨rest, rfl, ?_⟩)))
      simp only [hostOp] at h
      by_cases hb : (s.setHost rest).busy = true
      · rw [if_pos hb] at h
        cases h
        refine .inl ⟨hb, ?_⟩
        cases s
        cases hh
        rfl
      · rw [if_neg hb] at h
        cases h
        exact .inr ⟨by simpa using hb, rfl⟩
    | reset => cases h; exact .inr (.inr (.inr (.inr ⟨rest, rfl, rfl⟩)))

/-- Everything a step can answer as a next state: the completion of the pending command, or a Host step. -/
theorem step_next {s t : State} (h : step s = .next t) :
    (∃ p, s.pending = some p ∧ (p.wait = 0 ∨ s.host = []) ∧ completeWord p.word s = .next t) ∨
    (∃ p, s.pending = some p ∧ p.wait ≠ 0 ∧ s.host ≠ [] ∧ hostStep s.tick = .next t) ∨
    (s.pending = none ∧ hostStep s = .next t) := by
  unfold step agentStep at h
  cases hp : s.pending with
  | none => rw [hp] at h; exact .inr (.inr ⟨rfl, h⟩)
  | some p =>
    rw [hp] at h
    by_cases hm : engineMoves p s = true
    · simp only [hm, if_true] at h
      exact .inl ⟨p, rfl, by simpa [engineMoves] using hm, h⟩
    · simp only [hm] at h
      have hm' : p.wait ≠ 0 ∧ s.host ≠ [] := by simpa [engineMoves] using hm
      exact .inr (.inl ⟨p, rfl, hm'.1, hm'.2, h⟩)

/-- The model's own run is the run of the host interface. -/
theorem core_run_eq_run (n : Nat) (s : State) : Host.Core.run Sys2Proof.core n s = run n s := by
  induction n generalizing s with
  | zero => rfl
  | succ n ih =>
    have hrun : run (n + 1) s = (match step s with
      | .next t => run n t
      | .fault r => .fault r
      | .refused r => .refused r) := rfl
    refine (Host.Core.run.eq_2 Sys2Proof.core s n).trans ?_
    rw [hrun]
    have hs : Host.Core.step Sys2Proof.core s = step s := rfl
    cases h : step s with
    | next t => rw [hs.trans h]; exact ih t
    | fault r => rw [hs.trans h]; rfl
    | refused r => rw [hs.trans h]; rfl

end Sys2Proof.Machine
end

