-- ==== Sys2Proof/Tests/Slice0.lean ====
section
/-! SUPPORT. The model's own tests. Every expected value comes from spec/95_test_vectors.md or is worked out by hand from
the rule cited. The second half shows, for every statement with hypotheses, a concrete state that meets them. -/

namespace Sys2Proof.Machine.Tests

/-! ### Helpers -/

/-- The state a step answers, if it answers one. -/
def after : Result → Option State
  | .next s => some s
  | .fault _ => none
  | .refused _ => none

/-- KA, KB and KAES of 95_test_vectors.md. -/
def keyA : KlqKey := 0x0123456789ABCDEE#64
def keyB : KlqKey := 0x0123456789ABCDEF#64
def keyAes : Wide := 0x000102030405060708090A0B0C0D0E0F#128

/-- A KeeLoq pair: KA, payload 0C0FFEE, the given tolerance and LAST. -/
def klqPair (tol : Tolerance) (lst : Counter) : State :=
  { State.reset with
    configured := true, aVariant := .keeloq, aKey := 0x0123456789ABCDEE#128, aTol := tol
    aPayload := 0x0C0FFEE#28, ctr := lst }

/-- An AES pair: KAES, the given tolerance and CTR. -/
def aesPair (tol : Tolerance) (c : Counter) : State :=
  { State.reset with configured := true, aVariant := .aes, aKey := keyAes, aTol := tol, ctr := c }

/-- A state with DIN2 and DIN3 as given. -/
def withDin (d2 d3 : Word) (s : State) : State := { s with din := ⟨0#32, 0#32, d2, d3⟩ }

/-- An AES pair whose DIN is the code of counter `e`. -/
def aesReceives (tol : Tolerance) (c e : Counter) : State :=
  { aesPair tol c with din := wideQuad (aes128 keyAes e) }

/-- An AES pair of tolerance 0 whose DIN is no code of the window: the complement of the only one. -/
def aesRejects (c : Counter) : State := { aesPair 0#8 c with din := wideQuad (~~~ aes128 keyAes c) }

/-- A command word in progress, `n` Host steps before its completion. -/
def inProgress (w : Word) (n : Nat) (s : State) : State := { s with pending := some ⟨w, n⟩ }

/-! ### Well-formedness: each check refuses an ill-formed term -/

theorem test_reservedZero_refuses : reservedZero 0x00000101#32 = false := by decide
theorem test_opcodeAssigned_refuses : opcodeAssigned 0x00000007#32 = false := by decide
theorem test_wordWellFormed_refuses :
    wordWellFormed 0x00000101#32 = false ∧ wordWellFormed 0x00000007#32 = false ∧
      wordWellFormed 0x80000000#32 = false := by decide
theorem test_accessWellFormed_refuses :
    accessWellFormed 0x02#8 .bits32 = false ∧ accessWellFormed 0x04#8 .bits8 = false ∧
      accessWellFormed 0x04#8 .bits16 = false ∧ accessWellFormed 0x00#8 .bits64 = false := by decide
theorem test_opWellFormed_refuses :
    opWellFormed (.read 0x03#8 .bits32) = false ∧ opWellFormed (.write 0x3C#8 .bits16 0#32) = false := by decide

/-! ### Decoding: the words written out from the format of R70 and the map of R71 -/

theorem test_decode_nop : decode 0b00000000000000000000000000000000#32 = .ok .nop := by rfl
theorem test_decode_configure : decode 0b00000000000000000000000000000001#32 = .ok .configure := by rfl
theorem test_decode_generate : decode 0b00000000000000000000000000000010#32 = .ok .generate := by rfl
theorem test_decode_aesCompare : decode 0b00000000000000000000000000000011#32 = .ok .aesCompare := by rfl
theorem test_decode_klqReceive : decode 0b00000000000000000000000000000100#32 = .ok .klqReceive := by rfl
theorem test_decode_klqEncrypt : decode 0b00000000000000000000000000000101#32 = .ok .klqEncrypt := by rfl
theorem test_decode_klqDecrypt : decode 0b00000000000000000000000000000110#32 = .ok .klqDecrypt := by rfl
/-- The words are illegal by R72; the names of the reasons are the model's (log entry 14). -/
theorem test_decode_illegal :
    decode 0x00000107#32 = .error (.reservedBits 0x00000107#32) ∧
    decode 0x80000001#32 = .error (.reservedBits 0x80000001#32) ∧
    decode 0x000000FF#32 = .error (.unassignedOpcode 0x000000FF#32) := ⟨rfl, rfl, rfl⟩
theorem test_decodeTableWord :
    decodeTableWord 32 0 = some .nop ∧ decodeTableWord 32 1 = some .configure ∧ decodeTableWord 32 2 = some .generate ∧
    decodeTableWord 32 3 = some .aesCompare ∧ decodeTableWord 32 4 = some .klqReceive ∧
    decodeTableWord 32 5 = some .klqEncrypt ∧ decodeTableWord 32 6 = some .klqDecrypt ∧
    decodeTableWord 32 7 = none ∧ decodeTableWord 32 257 = none ∧ decodeTableWord 64 4294967296 = none := by decide

/-- The command placed as the next one runs as the first after reset: CONFIGURE with KEYLEN 0 is an error (R182). -/
theorem test_withFetchWord_configure :
    (after (step (State.reset.withFetchWord 32 1))).map statusWord = some 0x00000044#32 := by decide

/-- GENERATE right after reset: NOT_CONFIGURED (95_test_vectors.md section 2.6). -/
theorem test_withFetchWord_generate :
    (after (step (State.reset.withFetchWord 32 2))).map statusWord = some 0x00000024#32 := by decide

/-- An illegal word right after reset (95_test_vectors.md section 2.6). -/
theorem test_withFetchWord_illegal :
    (after (step (State.reset.withFetchWord 32 0x107))).map statusWord = some 0x00000014#32 ∧
    (after (step (State.reset.withFetchWord 32 0x007))).map statusWord = some 0x00000014#32 ∧
    (after (step (State.reset.withFetchWord 32 0x101))).map statusWord = some 0x00000014#32 := by decide

/-! ### The cipher's functions (95_test_vectors.md section 2.1) -/

theorem test_pack :
    klqPack 0x1234567#32 0xA#32 = 0xA1234567#32 ∧ klqPack 0xFFFFFFFF#32 0x1F#32 = 0xFFFFFFFF#32 ∧
    klqPack 0xABCDEF0#32 3#32 = 0x3ABCDEF0#32 ∧ klqPack 0x0C0FFEE#32 0#32 = 0x00C0FFEE#32 := by decide
theorem test_unpack :
    klqPayloadOf 0xEDCBA987#32 = 0xDCBA987#28 ∧ klqCounterOf 0xEDCBA987#32 = 0xE#4 := by decide
theorem test_nlf :
    klqNlf 0x00000001#32 = true ∧ klqNlf 0x00000002#32 = false ∧ klqNlf 0x10000000#32 = true ∧
    klqNlf 0xFFFFFFFF#32 = false ∧ klqNlf 0x15555555#32 = false ∧ klqNlf 0x89ABCDEF#32 = false ∧
    klqNlf 0x89ABCDEE#32 = true ∧ klqNlf 0#32 = false := by decide
theorem test_roundKey :
    klqRoundKey keyA 0 = 0x89ABCDEE#32 ∧ klqRoundKey keyA 1 = 0xC4D5E6F7#32 ∧ klqRoundKey keyA 66 = 0xE26AF37B#32 ∧
    klqRoundKey keyA 16 = 0x456789AB#32 ∧ klqRoundKey keyA 32 = 0x01234567#32 ∧ klqRoundKey keyA 33 = 0x0091A2B3#32 ∧
    klqRoundKey keyA 527 = 0x8ACF1357#32 ∧ klqRoundKey keyA 63 = 0#32 := by decide
theorem test_round_trace :
    klqRound 0xA1234567#32 0x89ABCDEE#32 = 0x5EDCBA98#32 ∧ klqRound 0x5EDCBA98#32 0xC4D5E6F7#32 = 0x5EDCBA98#32 ∧
    klqRound 0x5EDCBA98#32 0xE26AF37B#32 = 0xA1234567#32 := by decide
/-- The FB column of the round trace; its last row contradicts R103, which the model follows (log entry 16). -/
theorem test_feedback_trace :
    klqFeedback 0x89ABCDEE#32 0x5EDCBA98#32 = 0x0000000044D5E6F7#64 ∧
    klqFeedback 0xC4D5E6F7#32 0x5EDCBA98#32 = 0x00000000626AF37B#64 ∧
    klqFeedback 0xE26AF37B#32 0xA1234567#32 = 0x80000000713579BD#64 ∧
    klqFeedback 0xF13579BD#32 0xA1234567#32 = 0x80000000789ABCDE#64 := by decide

/-- Bit 43 of the key flips the output (95_test_vectors.md section 2.1). -/
theorem test_encrypt_bit43 : klqEncrypt 0x0000080000000000#64 0x12345678#32 = 0xEDCBA987#32 := by decide +kernel

/-- The code of counter 3 and the blocks of counters 3 and 4 (95_test_vectors.md sections 2.2, 2.5). -/
theorem test_encrypt_block3 : klqEncrypt keyA 0x30C0FFEE#32 = 0xCF3F0011#32 := by decide +kernel
theorem test_decrypt_block3 : klqDecrypt keyA 0xCF3F0011#32 = 0x30C0FFEE#32 := by decide +kernel
theorem test_decrypt_block4 : klqDecrypt keyA 0xBF3F0011#32 = 0x40C0FFEE#32 := by decide +kernel

/-! ### The commands (95_test_vectors.md sections 2.2 to 2.6) -/

/-- NOP after an error clears ERR and ERRCODE, at its issue. -/
theorem test_nop_after_error :
    (after (step ((klqPair 3#8 0#128).raise .wrongVariant |>.issue 0#32 0))).map statusWord =
      some 0x00030102#32 := by decide

/-- CTRL = 00050801 with KA configures a KeeLoq pair. -/
theorem test_configure_keeloq :
    (after (exec .configure { State.reset with
      ctrl := 0x00050801#32, key := ⟨0#32, 0#32, 0x01234567#32, 0x89ABCDEE#32⟩, payload := 0x00C0FFEE#32 })).map
      (fun t => (statusWord t, klqKey t, t.aPayload)) = some (0x00050102#32, keyA, 0x0C0FFEE#28) := by decide

/-- CTRL = 00030800 on a KeeLoq pair: an AES pair needs a 16-byte key, and the old pair is gone. -/
theorem test_configure_badLength :
    (after (exec .configure { klqPair 3#8 2#128 with ctrl := 0x00030800#32 })).map
      (fun t => (statusWord t, t.ctrl, t.ctr, t.aTol)) = some (0x00000044#32, 0x00030800#32, 2#128, 3#8) := by decide

/-- GENERATE of a KeeLoq pair: bits 31:4 of DIN3 are ignored. -/
theorem test_generate_keeloq :
    (after (exec .generate (withDin 0#32 0xFFFFFFF3#32 (klqPair 5#8 0#128)))).map (fun t => t.dout) =
      some ⟨0#32, 0#32, 0#32, 0xCF3F0011#32⟩ := by
  rw [← test_encrypt_block3]; rfl

/-- GENERATE of an AES pair, from the known-answer vector of FIPS 197 C.1. -/
theorem test_generate_aes
    (h : Aes128KnownAnswer keyAes 0x00112233445566778899AABBCCDDEEFF#128 0x69C4E0D86A7B0430D8CDB78070B4C55A#128) :
    (after (exec .generate { aesPair 5#8 0#128 with
      din := ⟨0x00112233#32, 0x44556677#32, 0x8899AABB#32, 0xCCDDEEFF#32⟩ })).map (fun t => t.dout) =
      some ⟨0x69C4E0D8#32, 0x6A7B0430#32, 0xD8CDB780#32, 0x70B4C55A#32⟩ := by
  have e : (after (exec .generate { aesPair 5#8 0#128 with
      din := ⟨0x00112233#32, 0x44556677#32, 0x8899AABB#32, 0xCCDDEEFF#32⟩ })).map (fun t => t.dout) =
      some (wideQuad (aes128 keyAes 0x00112233445566778899AABBCCDDEEFF#128)) := rfl
  rw [e, show aes128 keyAes _ = _ from h]; decide

/-- AES_COMPARE, exact sync (95_test_vectors.md section 1.4). -/
theorem test_aesCompare_sync (h : Aes128KnownAnswer keyAes 0#128 0xC6A13B37878F5B826F4F8162A1C8D879#128) :
    (after (exec .aesCompare { aesPair 5#8 0#128 with
      din := ⟨0xC6A13B37#32, 0x878F5B82#32, 0x6F4F8162#32, 0xA1C8D879#32⟩ })).map (fun t => (t.result, t.ctr)) =
      some (0x00000001#32, 1#128) := by
  have m : aesMatch keyAes 0#128 5#8 0xC6A13B37878F5B826F4F8162A1C8D879#128 = some 0 := by
    rw [aesMatch, leastOffset_eq_some]
    refine ⟨?_, by decide, fun j hj => absurd hj (Nat.not_lt_zero j)⟩
    have h' : aes128 keyAes 0#128 = 0xC6A13B37878F5B826F4F8162A1C8D879#128 := h
    simpa [aesCandidate, aesGen_eq] using h'
  have e := execAesCompare_of_pair (s := { aesPair 5#8 0#128 with
      din := ⟨0xC6A13B37#32, 0x878F5B82#32, 0x6F4F8162#32, 0xA1C8D879#32⟩ }) rfl rfl
  rw [show exec .aesCompare _ = _ from e]
  rw [show operandWide _ = 0xC6A13B37878F5B826F4F8162A1C8D879#128 from rfl]
  rw [show State.aKey _ = keyAes from rfl, show State.ctr _ = 0#128 from rfl, show State.aTol _ = 5#8 from rfl, m]
  rfl

/-- AES_COMPARE on a KeeLoq pair of tolerance 3. -/
theorem test_aesCompare_wrongVariant :
    (after (exec .aesCompare (klqPair 3#8 0#128))).map statusWord = some 0x00030136#32 := by decide

/-- What KLQ_RECEIVE decrypts in the two tests below. -/
theorem received_block3 (tol : Tolerance) (lst : Counter) :
    receivedBlock (withDin 0#32 0xCF3F0011#32 (klqPair tol lst)) = 0x30C0FFEE#32 := test_decrypt_block3
theorem received_block4 (tol : Tolerance) (lst : Counter) :
    receivedBlock (withDin 0#32 0xBF3F0011#32 (klqPair tol lst)) = 0x40C0FFEE#32 := test_decrypt_block4

/-- The window wrap (95_test_vectors.md section 1.8): LAST = 14, a block of counter 3 is accepted at offset 5. -/
theorem test_klqReceive_accepts :
    (after (exec .klqReceive (withDin 0#32 0xCF3F0011#32 (klqPair 5#8 14#128)))).map
      (fun t => (t.result, t.dout.x3, t.ctr)) = some (0x00000501#32, 0x00C0FFEE#32, 3#128) := by
  rw [show exec .klqReceive _ = _ from execKlqReceive_of_pair rfl rfl, received_block3]; rfl

/-- The window wrap: a block of counter 4 is rejected. -/
theorem test_klqReceive_rejects :
    (after (exec .klqReceive (withDin 0#32 0xBF3F0011#32 (klqPair 5#8 14#128)))).map
      (fun t => (t.result, t.dout, t.ctr)) = some (0#32, ⟨0#32, 0#32, 0#32, 0#32⟩, 14#128) := by
  rw [show exec .klqReceive _ = _ from execKlqReceive_of_pair rfl rfl, received_block4]; rfl

/-- KLQ_ENCRYPT takes the low 28 and the low 4 bits of its operands (R74). -/
theorem test_klqEncrypt :
    (after (exec .klqEncrypt (withDin 0xFFFFFFF3#32 0xF0C0FFEE#32 (klqPair 5#8 3#128)))).map
      (fun t => (t.dout, t.ctr)) = some (⟨0#32, 0#32, 0#32, 0xCF3F0011#32⟩, 3#128) := by
  rw [← test_encrypt_block3]; rfl

/-- KLQ_DECRYPT leaves the counter in DOUT2 and the payload in DOUT3. -/
theorem test_klqDecrypt :
    (after (exec .klqDecrypt (withDin 0xA#32 0xCF3F0011#32 (klqPair 5#8 9#128)))).map (fun t => (t.dout, t.ctr)) =
      some (⟨0#32, 0#32, 3#32, 0x00C0FFEE#32⟩, 9#128) := by
  have h := test_decrypt_block3
  have e : (after (exec .klqDecrypt (withDin 0xA#32 0xCF3F0011#32 (klqPair 5#8 9#128)))).map (fun t => (t.dout, t.ctr)) =
      some (⟨0#32, 0#32, (klqCounterOf (klqDecrypt keyA 0xCF3F0011#32)).setWidth 32,
        (klqPayloadOf (klqDecrypt keyA 0xCF3F0011#32)).setWidth 32⟩, 9#128) := rfl
  rw [e, h]; rfl

/-- KLQ_DECRYPT on an AES pair of tolerance 5. -/
theorem test_klqDecrypt_wrongVariant :
    (after (exec .klqDecrypt (aesPair 5#8 0#128))).map statusWord = some 0x00050036#32 := by decide

/-! ### The register window (95_test_vectors.md section 2.7) -/

theorem test_write_ctrl : readWindow 0x00#8 (busWrite 0x00#8 0xFFFFFFFF#32 State.reset) = 0x00FF1F01#32 := by decide
theorem test_write_payload : readWindow 0x20#8 (busWrite 0x20#8 0xFFFFFFFF#32 State.reset) = 0x0FFFFFFF#32 := by decide
theorem test_write_key_hidden : readWindow 0x18#8 (busWrite 0x18#8 0x01234567#32 State.reset) = 0#32 := by decide
theorem test_clear_overrun :
    statusWord (busWrite 0x08#8 0x8#32 { State.reset with overrun := true }) = 0#32 ∧
    statusWord (busWrite 0x08#8 0x0#32 { State.reset with overrun := true }) = 0x8#32 ∧
    statusWord (busWrite 0x08#8 0x8#32 (inProgress 0#32 1 State.reset)) = 0x9#32 := by decide

/-- Every name of the register map at its offset, the last of each group (R51). -/
theorem test_register_offsets :
    regOffset (.key 3) = 0x1C#8 ∧ regOffset (.din 3) = 0x3C#8 ∧ regOffset (.dout 3) = 0x4C#8 ∧
    regOffset (.ctr 3) = 0x5C#8 ∧ windowReg 0x24#8 = none ∧ windowReg 0x2C#8 = none ∧ windowReg 0x60#8 = none ∧
    windowReg 0xFC#8 = none := by decide

/-- An access of 8 bits is a fault and the run ends there. -/
theorem test_malformed_access : step (State.reset.setHost [.read 0x04#8 .bits8]) = .fault (.busError 0x04#8 .bits8) := rfl

/-- The host assembly of program P2's first lines (R79). -/
theorem test_asm :
    Asm.setctrl 1#32 8#32 5#32 = [.write 0x00#8 .bits32 0x00050801#32] ∧
    Asm.setkey64 keyA = [.write 0x18#8 .bits32 0x01234567#32, .write 0x1C#8 .bits32 0x89ABCDEE#32] ∧
    Asm.exec .configure = [.write 0x04#8 .bits32 0x00000001#32, .poll] ∧
    Asm.clroverrun = [.write 0x08#8 .bits32 0x00000008#32] := by decide

/-! ### Witnesses: for every statement with hypotheses, concrete states and operands that meet them together, one for
each clause. `witness_X` belongs to `Obligations.X`. -/

/-- A busy block: KLQ_ENCRYPT in progress, two Host steps before its completion, with these Host operations to come. -/
def busyWith (ops : List HostOp) : State := (inProgress 5#32 2 (klqPair 5#8 0#128)).setHost ops

/-- An idle block with these Host operations to come. -/
def idleWith (ops : List HostOp) : State := (klqPair 5#8 0#128).setHost ops

theorem witness_WholeWordIsDecoded : ∀ i : Instr, (0x00000107#32 : Word) ≠ encode i ∧ (0x00000007#32 : Word) ≠ encode i := by
  intro i; cases i <;> decide

theorem witness_StepRunsThePendingCommand_runs :
    (inProgress 6#32 0 State.reset).pending = some ⟨6#32, 0⟩ ∧ decode 6#32 = .ok .klqDecrypt ∧
    (inProgress 6#32 3 State.reset).host = [] := ⟨rfl, rfl, rfl⟩
theorem witness_StepRunsThePendingCommand_illegal :
    (inProgress 7#32 0 State.reset).pending = some ⟨7#32, 0⟩ ∧ decode 7#32 = .error (.unassignedOpcode 7#32) := ⟨rfl, rfl⟩
theorem witness_StepRunsThePendingCommand_waits :
    (busyWith [.poll]).pending = some ⟨5#32, 2⟩ ∧ (2 : Nat) ≠ 0 ∧ (busyWith [.poll]).host = [.poll] := by decide
theorem witness_StepRunsThePendingCommand_idle :
    (idleWith [.reset]).pending = none ∧ (idleWith [.reset]).host = [.reset] := by decide

theorem witness_CmdWriteIssues :
    (idleWith [.write 0x04#8 .bits32 5#32]).busy = false ∧
    (idleWith [.write 0x04#8 .bits32 5#32]).host = .write 0x04#8 .bits32 5#32 :: [] ∧ (busyWith []).busy = true := by decide

theorem witness_CompletionEndsBusy :
    (inProgress 7#32 0 (idleWith [.poll])).pending = some ⟨7#32, 0⟩ ∧
    (busyWith []).pending = some ⟨5#32, 2⟩ ∧ (busyWith []).host = [] := by decide

theorem witness_EveryIssuedCommandCompletes :
    (busyWith [.poll, .write 0x3C#8 .bits32 1#32, .poll]).pending = some ⟨5#32, 2⟩ ∧
    HostWellFormed (busyWith [.poll, .write 0x3C#8 .bits32 1#32, .poll]) :=
  ⟨rfl, show ∀ op ∈ [HostOp.poll, .write 0x3C#8 .bits32 1#32, .poll], opWellFormed op = true by decide⟩

theorem witness_EveryIssuedCommandCompletes_noReset :
    HostOp.reset ∉ (busyWith [.poll, .write 0x3C#8 .bits32 1#32, .poll]).host ∧
    HostWellFormed (busyWith [.poll, .reset]) :=
  ⟨by decide, show ∀ op ∈ [HostOp.poll, .reset], opWellFormed op = true by decide⟩

theorem witness_EveryRunEnds : HostWellFormed (idleWith (Asm.exec .klqEncrypt ++ Asm.rd (.dout 3))) :=
  show ∀ op ∈ Asm.exec .klqEncrypt ++ Asm.rd (.dout 3), opWellFormed op = true by decide

theorem witness_OnlyMalformedAccessesStop :
    step (idleWith [.read 0x02#8 .bits32]) = .fault (.busError 0x02#8 .bits32) ∧
    step (idleWith [.write 0xFC#8 .bits64 0#32]) = .fault (.busError 0xFC#8 .bits64) := ⟨rfl, rfl⟩

theorem witness_OperandsAreThoseAtIssue :
    ∃ t : State, step (busyWith [.write 0x3C#8 .bits32 1#32]) = .next t ∧
      (busyWith [.write 0x3C#8 .bits32 1#32]).pending = some ⟨5#32, 2⟩ ∧ t.pending = some ⟨5#32, 1⟩ ∧ t.overrun = true :=
  ⟨_, rfl, rfl, rfl, rfl⟩

theorem witness_OperandsAreThoseAtIssue_after :
    (idleWith []).busy = false ∧
    (0x3C#8 : Offset) ∈ [0x00#8, 0x10#8, 0x14#8, 0x18#8, 0x1C#8, 0x20#8, 0x30#8, 0x34#8, 0x38#8, 0x3C#8] := by decide

theorem witness_ConfigureLatchesThePair :
    (0x00051000#32).extractLsb' 8 5 = (if (0x00051000#32).getLsbD 0 then 8#5 else 16#5) ∧
    (0x00FF0801#32).extractLsb' 8 5 = (if (0x00FF0801#32).getLsbD 0 then 8#5 else 16#5) ∧
    (0x00051001#32).extractLsb' 8 5 ≠ (if (0x00051001#32).getLsbD 0 then 8#5 else 16#5) ∧
    State.reset.ctrl.extractLsb' 8 5 ≠ (if State.reset.ctrl.getLsbD 0 then 8#5 else 16#5) := by decide

theorem witness_FailedConfigureLeavesNoPair :
    ({ klqPair 3#8 2#128 with ctrl := 0x00030800#32 } : State).ctrl.extractLsb' 8 5 ≠
      (if ({ klqPair 3#8 2#128 with ctrl := 0x00030800#32 } : State).ctrl.getLsbD 0 then 8#5 else 16#5) ∧
    State.reset.configured = false := by decide

theorem witness_OnlyConfigureChangesThePair :
    ∃ t : State, step (inProgress 1#32 0 { State.reset with ctrl := 0x00050801#32 }) = .next t ∧
      State.reset.configured = false ∧ t.configured = true ∧ t.aVariant = .keeloq := ⟨_, rfl, rfl, rfl, rfl⟩

theorem witness_NotConfiguredIsRaised :
    State.reset.configured = false ∧ Instr.klqDecrypt ∈ [Instr.generate, .aesCompare, .klqReceive, .klqEncrypt, .klqDecrypt] ∧
    wordWellFormed 0x00000107#32 = false ∧ State.reset.errCode = .noError ∧
    (after (completeWord 0x00000107#32 State.reset)).isSome = true ∧ (after (completeWord 1#32 State.reset)).isSome = true ∧
    (after (completeWord 0#32 State.reset)).isSome = true := by decide

theorem witness_WrongVariantIsRaised :
    (klqPair 5#8 0#128).configured = true ∧ (klqPair 5#8 0#128).aVariant = .keeloq ∧
    (aesPair 5#8 0#128).configured = true ∧ (aesPair 5#8 0#128).aVariant = .aes ∧
    State.reset.errCode = .noError ∧ ∃ t : State, exec .generate State.reset = .next t := ⟨rfl, rfl, rfl, rfl, rfl, _, rfl⟩

theorem witness_ErrorsArePrecise :
    (∃ t : State, State.reset.err = false ∧ completeWord 2#32 State.reset = .next t ∧ t.err = true) ∧
    (∃ t : State, State.reset.err = false ∧ completeWord 1#32 State.reset = .next t ∧ t.err = true) :=
  ⟨⟨_, rfl, rfl, rfl⟩, ⟨_, rfl, rfl, rfl⟩⟩

theorem witness_ErrorPriority_illegal :
    (∀ i : Instr, decode 0x00000107#32 ≠ .ok i) ∧ ∃ t : State, completeWord 0x00000107#32 State.reset = .next t :=
  ⟨fun i h => (by cases h), _, rfl⟩
theorem witness_ErrorPriority_notConfigured :
    decode 3#32 = .ok .aesCompare ∧ needsPair .aesCompare = true ∧ State.reset.configured = false ∧
    ∃ t : State, completeWord 3#32 State.reset = .next t := ⟨rfl, rfl, rfl, _, rfl⟩
theorem witness_ErrorPriority_wrongVariant :
    decode 3#32 = .ok .aesCompare ∧ (klqPair 5#8 0#128).configured = true ∧ neededVariant .aesCompare = some .aes ∧
    (klqPair 5#8 0#128).aVariant ≠ .aes ∧ ∃ t : State, completeWord 3#32 (klqPair 5#8 0#128) = .next t :=
  ⟨rfl, rfl, rfl, by decide, _, rfl⟩
theorem witness_ErrorPriority_own :
    decode 1#32 = .ok .configure ∧ (needsPair .configure = true → State.reset.configured = true) ∧
    (∀ v : Variant, neededVariant .configure = some v → State.reset.aVariant = v) ∧
    (∃ t : State, completeWord 1#32 State.reset = .next t) ∧ (busyWith []).busy = true :=
  ⟨rfl, fun h => (by cases h), fun v h => (by cases h), ⟨_, rfl⟩, rfl⟩

theorem witness_RejectionLeavesTheReceiver_rejects :
    ∃ t : State, (withDin 0#32 0xBF3F0011#32 (klqPair 5#8 14#128)).err = false ∧
      exec .klqReceive (withDin 0#32 0xBF3F0011#32 (klqPair 5#8 14#128)) = .next t ∧ acceptBit t = false := by
  refine ⟨(((withDin 0#32 0xBF3F0011#32 (klqPair 5#8 14#128)).setDout (quadLow 0#32)).setResult resultReject).finish,
    rfl, ?_, rfl⟩
  rw [show exec .klqReceive _ = _ from execKlqReceive_of_pair rfl rfl, received_block4]; rfl
theorem witness_RejectionLeavesTheReceiver_error :
    ∃ t : State, (klqPair 5#8 7#128).err = false ∧ exec .aesCompare (klqPair 5#8 7#128) = .next t ∧ t.err = true :=
  ⟨_, rfl, rfl, rfl⟩

theorem witness_RoundKeyIsAShiftOfTheMasterKey :
    ((31 : Nat) < 32 ∧ 32 % 64 + 31 < 64) ∧ ((31 : Nat) < 32 ∧ 64 ≤ 33 % 64 + 31) ∧ 63 % 64 = 63 ∧ 511 % 64 = 63 := by decide
theorem witness_RoundXorsOneBitIntoEveryBit : (31 : Nat) < 32 ∧ (62 : Nat) < 63 := by decide
theorem witness_SchedulesRunEveryRoundInOrder : (0 : Nat) < 528 ∧ (527 : Nat) < 528 := by omega
theorem witness_CipherClosedForm :
    ((0 : Nat) < 64 ∧ (63 : Nat) < 64) ∧ parity (keyB &&& 0x00000CC6575D5B9B#64) = false ∧
    (0#64) &&& 0x00000CC6575D5B9B#64 = 0x0000100000000000#64 &&& 0x00000CC6575D5B9B#64 := by decide +kernel

theorem witness_CipherClosedForm_taps : (15 : Nat) ≤ 15 ∧ 28 ∈ Config.klqTaps ∧ 0 ∈ Config.klqTaps := by decide

theorem witness_KlqEncryptCommand :
    (klqPair 5#8 0#128).configured = true ∧ (klqPair 5#8 0#128).aVariant = .keeloq ∧ State.reset.configured = false ∧
    (aesPair 5#8 0#128).configured = true ∧ (aesPair 5#8 0#128).aVariant = .aes := by decide
theorem witness_KlqDecryptCommand :
    (klqPair 0#8 15#128).configured = true ∧ (klqPair 0#8 15#128).aVariant = .keeloq ∧ State.reset.configured = false ∧
    (aesPair 0#8 0#128).configured = true ∧ (aesPair 0#8 0#128).aVariant = .aes := by decide
theorem witness_KlqEncryptIgnoresTheCounter :
    ∃ t : State, exec .klqEncrypt (withDin 3#32 0x00C0FFEE#32 (klqPair 5#8 9#128)) = .next t :=
  exec_answers_next _ _
theorem witness_EncryptThenDecryptGivesBack :
    (withDin 0xA#32 0x01234567#32 (klqPair 5#8 0#128)).configured = true ∧
    (withDin 0xA#32 0x01234567#32 (klqPair 5#8 0#128)).aVariant = .keeloq := by decide

theorem witness_GenerateCommand :
    (aesPair 5#8 0#128).configured = true ∧ (aesPair 5#8 0#128).aVariant = .aes ∧
    (klqPair 5#8 0#128).configured = true ∧ (klqPair 5#8 0#128).aVariant = .keeloq ∧ State.reset.configured = false := by decide
theorem witness_GenerateDependsOnKeyAndCounter_keeloq :
    (withDin 1#32 0x13#32 (klqPair 5#8 0#128)).aVariant = (withDin 2#32 0x3#32 (klqPair 9#8 7#128)).aVariant ∧
    (withDin 1#32 0x13#32 (klqPair 5#8 0#128)).aKey = (withDin 2#32 0x3#32 (klqPair 9#8 7#128)).aKey ∧
    (klqPair 5#8 0#128).aPayload = (klqPair 9#8 7#128).aPayload ∧
    (0x13#32).extractLsb' 0 4 = (0x3#32).extractLsb' 0 4 := by decide
theorem witness_GenerateDependsOnKeyAndCounter_aes :
    (withDin 1#32 0x13#32 (aesPair 5#8 0#128)).aVariant = .aes ∧
    (withDin 1#32 0x13#32 (aesPair 5#8 0#128)).aKey = (withDin 1#32 0x13#32 (aesPair 9#8 7#128)).aKey ∧
    (withDin 1#32 0x13#32 (aesPair 5#8 0#128)).din = (withDin 1#32 0x13#32 (aesPair 9#8 7#128)).din := by decide

/-- DIN of `aesReceives` is the code of `e`. -/
theorem aesReceives_din (tol : Tolerance) (c e : Counter) :
    quadWide (aesReceives tol c e).din = aes128 keyAes e := quadWide_wideQuad _

/-- DIN of `aesRejects` is not the code of its counter. -/
theorem aesRejects_din (c : Counter) : aes128 keyAes c ≠ quadWide (aesRejects c).din := by
  rw [show quadWide (aesRejects c).din = ~~~ aes128 keyAes c from quadWide_wideQuad _]
  intro h
  have := congrArg (fun v : Wide => v.getLsbD 0) h
  simp at this

theorem witness_AesCompareCommand_accepts :
    (aesReceives 5#8 7#128 7#128).configured = true ∧ (aesReceives 5#8 7#128 7#128).aVariant = .aes ∧
    (0 : Nat) ≤ (aesReceives 5#8 7#128 7#128).aTol.toNat ∧ (aesReceives 5#8 7#128 7#128).ctr.toNat + 0 < 2 ^ 128 ∧
    aes128 (aesReceives 5#8 7#128 7#128).aKey (BitVec.ofNat 128 ((aesReceives 5#8 7#128 7#128).ctr.toNat + 0)) =
      quadWide (aesReceives 5#8 7#128 7#128).din ∧ ∀ j : Nat, ¬ j < 0 :=
  ⟨rfl, rfl, by decide, by decide, (aesReceives_din _ _ _).symm, fun j => Nat.not_lt_zero j⟩

/-- The clause at its last offset, k = tolerance, for an AES128 with distinct codes. -/
theorem witness_AesCompareCommand_resynchronises (h : Aes128Injective) :
    aes128 (aesReceives 5#8 7#128 12#128).aKey (BitVec.ofNat 128 ((aesReceives 5#8 7#128 12#128).ctr.toNat + 5)) =
      quadWide (aesReceives 5#8 7#128 12#128).din ∧ 5 ≤ (aesReceives 5#8 7#128 12#128).aTol.toNat ∧
    ∀ j : Nat, j < 5 →
      aes128 (aesReceives 5#8 7#128 12#128).aKey (BitVec.ofNat 128 ((aesReceives 5#8 7#128 12#128).ctr.toNat + j)) ≠
        quadWide (aesReceives 5#8 7#128 12#128).din := by
  refine ⟨(aesReceives_din _ _ _).symm, by decide, fun j hj e => ?_⟩
  rw [aesReceives_din] at e
  have e' := congrArg BitVec.toNat (h keyAes e)
  rw [BitVec.toNat_ofNat, show (aesReceives 5#8 7#128 12#128).ctr.toNat = 7 from rfl,
    show BitVec.toNat (12#128) = 12 from rfl, Nat.mod_eq_of_lt (by omega)] at e'
  omega

/-- The overflow clause of the priorities. -/
theorem witness_ErrorPriority_overflow :
    decode 3#32 = .ok .aesCompare ∧ (aesReceives 0#8 (BitVec.allOnes 128) (BitVec.allOnes 128)).configured = true ∧
    (0 : Nat) ≤ (aesReceives 0#8 (BitVec.allOnes 128) (BitVec.allOnes 128)).aTol.toNat ∧
    (BitVec.allOnes 128).toNat + 0 = 2 ^ 128 - 1 ∧
    ∀ j : Nat, j ≤ 0 →
      (aes128 keyAes (BitVec.ofNat 128 ((BitVec.allOnes 128).toNat + j)) =
        quadWide (aesReceives 0#8 (BitVec.allOnes 128) (BitVec.allOnes 128)).din ↔ j = 0) := by
  refine ⟨rfl, rfl, by decide, by decide, fun j hj => ?_⟩
  have : j = 0 := Nat.le_zero.mp hj
  subst this
  exact ⟨fun _ => rfl, fun _ => (aesReceives_din 0#8 (BitVec.allOnes 128) (BitVec.allOnes 128)).symm⟩
theorem witness_ErrorPriority_busyWrite :
    ∃ t : State, (busyWith []).busy = true ∧ hostOp (.write 0xFC#8 .bits32 1#32) (busyWith []) = .next t :=
  ⟨_, rfl, rfl⟩
theorem witness_ErrorPriority_malformed : ¬ (AccessWidth.bits16 = .bits32 ∧ (0x04#8).toNat % 4 = 0) := by decide

/-- The clause where the match would advance the counter to 2^128 (R157). -/
theorem witness_AesCompareCommand_overflow :
    (aesReceives 5#8 (BitVec.allOnes 128) (BitVec.allOnes 128)).ctr.toNat + 0 < 2 ^ 128 ∧
    (aesReceives 5#8 (BitVec.allOnes 128) (BitVec.allOnes 128)).ctr.toNat + 0 + 1 = 2 ^ 128 ∧
    aes128 keyAes (BitVec.allOnes 128) = quadWide (aesReceives 5#8 (BitVec.allOnes 128) (BitVec.allOnes 128)).din :=
  ⟨by decide, by decide, (aesReceives_din _ _ _).symm⟩

theorem witness_AesCompareCommand_rejects :
    (aesRejects 7#128).configured = true ∧ (aesRejects 7#128).aVariant = .aes ∧
    ∀ k : Nat, k ≤ (aesRejects 7#128).aTol.toNat → (aesRejects 7#128).ctr.toNat + k < 2 ^ 128 →
      aes128 (aesRejects 7#128).aKey (BitVec.ofNat 128 ((aesRejects 7#128).ctr.toNat + k)) ≠
        quadWide (aesRejects 7#128).din := by
  refine ⟨rfl, rfl, fun k hk _ => ?_⟩
  have : k = 0 := Nat.le_zero.mp hk
  subst this
  exact aesRejects_din 7#128
theorem witness_AesCompareCommand_errors :
    State.reset.configured = false ∧ (klqPair 5#8 0#128).configured = true ∧ (klqPair 5#8 0#128).aVariant = .keeloq := by decide

theorem witness_AesAcceptanceLaw_accepts :
    (aesReceives 5#8 7#128 7#128).configured = true ∧ (aesReceives 5#8 7#128 7#128).aVariant = .aes ∧
    (aesReceives 5#8 7#128 7#128).err = false ∧ (aesReceives 5#8 7#128 7#128).ctr.toNat ≤ 7 ∧
    7 ≤ (aesReceives 5#8 7#128 7#128).ctr.toNat + (aesReceives 5#8 7#128 7#128).aTol.toNat ∧ 7 < 2 ^ 128 - 1 ∧
    quadWide (aesReceives 5#8 7#128 7#128).din = aes128 (aesReceives 5#8 7#128 7#128).aKey (BitVec.ofNat 128 7) ∧
    ∀ a b : Nat, (aesReceives 5#8 7#128 7#128).ctr.toNat ≤ a → a < b → ¬ b ≤ 7 :=
  ⟨rfl, rfl, rfl, by decide, by decide, by decide, aesReceives_din _ _ _, fun a b h h' => by
    rw [show (aesReceives 5#8 7#128 7#128).ctr.toNat = 7 from rfl] at h; omega⟩

/-- The emitter at the last counter of the window, for an AES128 with distinct codes. -/
theorem witness_AesAcceptanceLaw_resynchronises (h : Aes128Injective) :
    quadWide (aesReceives 5#8 7#128 12#128).din = aes128 (aesReceives 5#8 7#128 12#128).aKey (BitVec.ofNat 128 12) ∧
    ∀ a b : Nat, (aesReceives 5#8 7#128 12#128).ctr.toNat ≤ a → a < b → b ≤ 12 →
      aes128 (aesReceives 5#8 7#128 12#128).aKey (BitVec.ofNat 128 a) ≠
        aes128 (aesReceives 5#8 7#128 12#128).aKey (BitVec.ofNat 128 b) := by
  refine ⟨aesReceives_din _ _ _, fun a b _ hab hb e => ?_⟩
  have e' := congrArg BitVec.toNat (h _ e)
  simp only [BitVec.toNat_ofNat, Config.aesBlockW] at e'
  omega

theorem witness_AesAcceptanceLaw_completes :
    ∃ t : State, exec .aesCompare (aesRejects 7#128) = .next t :=
  exec_answers_next _ _

theorem witness_AbsentCandidatesMatchNothing :
    (aesRejects (BitVec.allOnes 128)).configured = true ∧ (aesRejects (BitVec.allOnes 128)).aVariant = .aes ∧
    (aesRejects (BitVec.allOnes 128)).ctr = BitVec.allOnes 128 ∧
    aes128 (aesRejects (BitVec.allOnes 128)).aKey (aesRejects (BitVec.allOnes 128)).ctr ≠
      quadWide (aesRejects (BitVec.allOnes 128)).din ∧
    (BitVec.allOnes 128).toNat + 0 < 2 ^ 128 ∧ 2 ^ 128 ≤ (BitVec.allOnes 128).toNat + 1 :=
  ⟨rfl, rfl, rfl, aesRejects_din _, by decide, by decide⟩

theorem witness_KlqReceiveCommand :
    (withDin 0#32 0xCF3F0011#32 (klqPair 5#8 14#128)).configured = true ∧
    (withDin 0#32 0xCF3F0011#32 (klqPair 5#8 14#128)).aVariant = .keeloq ∧
    0x30C0FFEE#32 = receivedBlock (withDin 0#32 0xCF3F0011#32 (klqPair 5#8 14#128)) ∧
    0x40C0FFEE#32 = receivedBlock (withDin 0#32 0xBF3F0011#32 (klqPair 5#8 14#128)) ∧
    5 ≤ (klqPair 5#8 14#128).aTol.toNat ∧
    ((0x30C0FFEE#32).extractLsb' 28 4).toNat = (((14#128).extractLsb' 0 4).toNat + 5) % 16 ∧
    (∀ j : Nat, j < 5 → ((0x30C0FFEE#32).extractLsb' 28 4).toNat ≠ (((14#128).extractLsb' 0 4).toNat + j) % 16) ∧
    (∀ i : Nat, i < 6 → ((0x40C0FFEE#32).extractLsb' 28 4).toNat ≠ (((14#128).extractLsb' 0 4).toNat + i) % 16) :=
  ⟨rfl, rfl, (received_block3 _ _).symm, (received_block4 _ _).symm, by decide, by decide, by decide, by decide⟩
theorem witness_KlqReceiveCommand_errors :
    State.reset.configured = false ∧ (aesPair 5#8 0#128).configured = true ∧ (aesPair 5#8 0#128).aVariant = .aes := by decide

theorem witness_KlqAcceptanceLaw :
    (withDin 0#32 0xCF3F0011#32 (klqPair 5#8 14#128)).configured = true ∧
    (withDin 0#32 0xCF3F0011#32 (klqPair 5#8 14#128)).aVariant = .keeloq ∧
    3#4 = (receivedBlock (withDin 0#32 0xCF3F0011#32 (klqPair 5#8 14#128))).extractLsb' 28 4 ∧
    3#4 = (receivedBlock (withDin 0#32 0xCF3F0011#32 (klqPair 15#8 3#128))).extractLsb' 28 4 ∧
    3#4 = last (klqPair 15#8 3#128) ∧ 15 ≤ (klqPair 15#8 3#128).aTol.toNat :=
  ⟨rfl, rfl, by rw [received_block3]; decide, by rw [received_block3]; decide, by decide, by decide⟩

theorem witness_CounterMovesOnlyOnAccept_configure :
    ∃ t : State, exec .configure { klqPair 5#8 9#128 with ctrl := 0x00050801#32 } = .next t ∧
      t.ctr ≠ (klqPair 5#8 9#128).ctr := ⟨_, rfl, by decide⟩
theorem witness_CounterMovesOnlyOnAccept_receive :
    ∃ t : State, exec .klqReceive (withDin 0#32 0xCF3F0011#32 (klqPair 5#8 14#128)) = .next t ∧ t.ctr = 3#128 := by
  have h := test_klqReceive_accepts
  cases he : exec .klqReceive (withDin 0#32 0xCF3F0011#32 (klqPair 5#8 14#128)) with
  | next t =>
    rw [he] at h
    simp only [after, Option.map_some, Option.some.injEq, Prod.mk.injEq] at h
    exact ⟨t, rfl, h.2.2⟩
  | fault r => rw [he] at h; cases h
  | refused r => rw [he] at h; cases h
theorem witness_CounterMovesOnlyOnAccept_aes :
    (∃ t : State, exec .aesCompare (aesReceives 5#8 7#128 7#128) = .next t) ∧ Instr.aesCompare ≠ .configure ∧
    (aesReceives 5#8 7#128 7#128).aVariant = .aes := ⟨exec_answers_next _ _, by decide, rfl⟩

theorem witness_RegisterMapReads :
    (idleWith []).busy = false ∧ (after (hostOp (.read (regOffset (.ctr 3)) .bits32) (klqPair 5#8 9#128))).map
      (fun t => t.reads) = some [9#32] := by decide

theorem witness_StatusLayout : (klqPair 5#8 0#128).busy = false ∧ (8#32).getLsbD 3 = true ∧ (0#32).getLsbD 3 = false := by decide

theorem witness_LowestOffsetIsMostSignificant :
    ∃ t : State, (0x00050801#32).getLsbD 0 = true ∧ (0x00050801#32).extractLsb' 8 5 = 8#5 ∧
      exec .configure { State.reset with ctrl := 0x00050801#32 } = .next t := ⟨_, by decide, by decide, rfl⟩

theorem witness_LowestOffsetIsMostSignificant_write :
    (klqPair 5#8 0#128).busy = false ∧
    (∃ t : State, exec .configure { State.reset with ctrl := 0x00051000#32 } = .next t ∧ t.configured = true) :=
  ⟨rfl, _, rfl, rfl⟩

/-- KEY0 is written at offset 0x10 and holds bits 127:96; DIN3 at 0x3C holds bits 31:0 (R28, R51, R52). -/
theorem test_quad_order :
    (after (hostOp (.write 0x10#8 .bits32 0x00010203#32) State.reset)).map (fun t => quadWide t.key) =
      some 0x00010203000000000000000000000000#128 ∧
    (after (hostOp (.write 0x3C#8 .bits32 0xA1C8D879#32) State.reset)).map (fun t => quadWide t.din) =
      some 0x000000000000000000000000A1C8D879#128 := by decide

theorem witness_CodesAreBigEndian :
    ((15 : Fin 16).val = 4 * (3 : Fin 4).val + (3 : Fin 4).val) ∧ ((0 : Fin 16).val = 4 * (0 : Fin 4).val + (0 : Fin 4).val) := by
  decide

theorem witness_MalformedAccessFaults :
    ¬ (AccessWidth.bits8 = .bits32 ∧ (0x3C#8).toNat % 4 = 0) ∧ ¬ (AccessWidth.bits32 = .bits32 ∧ (0x3E#8).toNat % 4 = 0) ∧
    (busyWith [.read 0x3C#8 .bits8]).host = .read 0x3C#8 .bits8 :: [] ∧
    (∀ p : Pending, (busyWith [.read 0x3C#8 .bits8]).pending = some p → p.wait ≠ 0) ∧
    (idleWith [.write 0x3E#8 .bits32 1#32]).host = .write 0x3E#8 .bits32 1#32 :: [] ∧
    (∀ p : Pending, (idleWith [.write 0x3E#8 .bits32 1#32]).pending = some p → p.wait ≠ 0) := by
  refine ⟨by decide, by decide, rfl, fun p h => ?_, rfl, fun p h => ?_⟩
  · cases h; decide
  · cases h

theorem witness_ReadOnlyRegistersIgnoreWrites : (klqPair 5#8 0#128).busy = false ∧ (0xFFFFFFF7#32).getLsbD 3 = false := by decide

theorem witness_UnmappedOffsetsReadZero :
    (0x24#8).toNat % 4 = 0 ∧ 0x24 ≤ (0x24#8).toNat ∧ (0x24#8).toNat ≤ 0x2C ∧ (0x2C#8).toNat % 4 = 0 ∧
    0x24 ≤ (0x2C#8).toNat ∧ (0x2C#8).toNat ≤ 0x2C ∧ (0x60#8).toNat % 4 = 0 ∧ 0x60 ≤ (0x60#8).toNat ∧
    (0xFC#8).toNat % 4 = 0 ∧ 0x60 ≤ (0xFC#8).toNat ∧ (idleWith []).busy = false ∧ (busyWith []).busy = true := by decide

theorem witness_StagingWritesStore :
    (klqPair 5#8 0#128).busy = false ∧ (0xFC#8).toNat % 4 = 0 ∧ (0x3C#8 : Offset) ∈ [0x30#8, 0x34#8, 0x38#8, 0x3C#8] := by decide

theorem witness_ReadsHaveNoSideEffect :
    (0x3C#8).toNat % 4 = 0 ∧ (0x5C#8).toNat % 4 = 0 ∧ (idleWith []).busy = false ∧ (busyWith []).busy = true ∧
    (0x3C#8 : Offset) ∉ [0x0C#8, 0x40#8, 0x44#8, 0x48#8, 0x4C#8, 0x50#8, 0x54#8, 0x58#8, 0x5C#8] ∧
    (0x5C#8 : Offset) ∈ [0x0C#8, 0x40#8, 0x44#8, 0x48#8, 0x4C#8, 0x50#8, 0x54#8, 0x58#8, 0x5C#8] := by decide

theorem witness_WritesWhileBusyOnlyOverrun :
    (busyWith []).busy = true ∧
    (∃ t : State, step ({ klqPair 5#8 0#128 with overrun := true }.setHost [.write 0x08#8 .bits32 8#32]) = .next t ∧
      t.overrun = false) ∧
    (∃ t : State, step ({ busyWith [.reset] with overrun := true }) = .next t ∧ t.overrun = false) :=
  ⟨rfl, ⟨_, rfl, rfl⟩, ⟨_, rfl, rfl⟩⟩

theorem witness_NoReadShowsTheKey :
    ∃ t : State, hostStep (idleWith [.read 0x10#8 .bits32]) = .next t ∧ t.reads = [0#32] := ⟨_, rfl, rfl⟩

theorem witness_CommandsLeaveStagingAlone :
    (∃ t : State, exec .klqEncrypt (klqPair 5#8 0#128) = .next t) ∧
    (0x3C#8 : Offset) ∉ [0x08#8, 0x0C#8, 0x40#8, 0x44#8, 0x48#8, 0x4C#8, 0x50#8, 0x54#8, 0x58#8, 0x5C#8] :=
  ⟨exec_answers_next _ _, by decide⟩

theorem witness_PollWaitsForBusy :
    (idleWith [.poll]).pending = none ∧ (idleWith [.poll]).host = .poll :: [] ∧
    (busyWith [.poll]).pending = some ⟨5#32, 2⟩ ∧ (2 : Nat) ≠ 0 ∧ (busyWith [.poll]).host = .poll :: [] := by decide

theorem witness_ResetFromEveryState :
    (busyWith [.reset]).host = .reset :: [] ∧ (∀ p : Pending, (busyWith [.reset]).pending = some p → p.wait ≠ 0) ∧
    (idleWith [.reset]).host = .reset :: [] ∧ (∀ p : Pending, (idleWith [.reset]).pending = some p → p.wait ≠ 0) := by
  refine ⟨rfl, fun p h => ?_, rfl, fun p h => ?_⟩
  · cases h; decide
  · cases h

/-- A state after a command has configured a pair and counted: it meets the invariants, and so does its step's result. -/
theorem witness_StepKeepsTheInvariants :
    Inv (busyWith [.write 0x00#8 .bits32 0xFFFFFFFF#32]) ∧
    ∃ t : State, step (busyWith [.write 0x00#8 .bits32 0xFFFFFFFF#32]) = .next t ∧ t.overrun = true :=
  ⟨⟨by decide, by decide, by decide, by decide, by decide, by decide, by decide, by decide, by decide⟩, _, rfl, rfl⟩

theorem witness_ReachableStatesMeetTheInvariants :
    ∃ t : State, Reachable t ∧ t.ctrl = 0x00FF1F01#32 :=
  ⟨_, .step (.start [.write 0x00#8 .bits32 0xFFFFFFFF#32]) rfl, by decide⟩

theorem witness_BusyLastsFromIssueToCompletion_issue :
    ∃ t : State, (idleWith [.write 0x04#8 .bits32 5#32]).busy = false ∧
      step (idleWith [.write 0x04#8 .bits32 5#32]) = .next t ∧ t.busy = true := ⟨_, rfl, rfl, rfl⟩
theorem witness_BusyLastsFromIssueToCompletion_ends :
    (∃ t : State, (busyWith []).pending = some ⟨5#32, 2⟩ ∧ step (busyWith []) = .next t) ∧
    (∃ t : State, (busyWith [.reset]).pending = some ⟨5#32, 2⟩ ∧ step (busyWith [.reset]) = .next t ∧ t.busy = false) ∧
    (∃ t : State, (busyWith [.poll]).pending = some ⟨5#32, 2⟩ ∧ step (busyWith [.poll]) = .next t ∧ t.busy = true) :=
  ⟨⟨_, rfl, (exec_answers_next .klqEncrypt (busyWith [])).choose_spec⟩, ⟨_, rfl, rfl, rfl⟩, ⟨_, rfl, rfl, rfl⟩⟩

theorem witness_FinalStatesStay : Final State.reset ∧ (busyWith []).busy = true := ⟨⟨rfl, rfl⟩, rfl⟩

end Sys2Proof.Machine.Tests
end

section
/-! The values of the reset state, as its fields hold them and as the register window reads them (R38). -/

namespace Sys2Proof.Machine

/-- STATUS after reset: BUSY, CONFIGURED, ERR, OVERRUN and every field beside them are 0 (R26, R38). -/
@[simp] theorem statusWord_reset : statusWord State.reset = 0#32 := by decide

/-- CTRL is the one register whose reset value is not 0 (R38). -/
theorem readReg_reset_of_ne_ctrl {r : WindowReg} (h : r ≠ .ctrl) : readReg r State.reset = 0#32 := by
  cases r with
  | ctrl => exact absurd rfl h
  | cmd => rfl
  | status => exact statusWord_reset
  | result => rfl
  | key i => rfl
  | payload => rfl
  | din i => fin_cases i <;> rfl
  | dout i => fin_cases i <;> rfl
  | ctr i => fin_cases i <;> rfl

/-- What the register window reads after reset: the split is on what is mapped at the offset (R51, R56). -/
theorem readWindow_reset (o : Offset) :
    readWindow o State.reset = if o = 0x00#8 then 0x00050000#32 else 0#32 := by
  by_cases ho : o = 0x00#8
  · subst ho
    rfl
  · rw [if_neg ho]
    cases hr : windowReg o with
    | none => simp only [readWindow, hr]
    | some r =>
      have hoff : regOffset r = o := regOffset_of_windowReg o r hr
      have hne : r ≠ .ctrl := by
        rintro rfl
        exact ho hoff.symm
      rw [← hoff, readWindow_regOffset]
      exact readReg_reset_of_ne_ctrl hne

/-- Settles O54: the fields are those of the definition of the reset state, and the window is read register by
register. -/
theorem resetValues : Obligations.ResetValues :=
  ⟨rfl, statusWord_reset, rfl, rfl, rfl, rfl, rfl, rfl, rfl, rfl, rfl, rfl, rfl, rfl, rfl, rfl, rfl, readWindow_reset⟩

end Sys2Proof.Machine
end

section
/-! The memory map (20_memory.md): the offsets of the registers, what one Host access of a register does, and the
statements about operands, word order, malformed accesses, read-only registers and unmapped offsets. -/

namespace Sys2Proof.Machine

/-! ### The offsets of the registers (R51) -/

theorem regOffset_key_toNat (i : Fin 4) : (regOffset (.key i)).toNat = 0x10 + 4 * i.val := by
  revert i; decide

theorem regOffset_din_toNat (i : Fin 4) : (regOffset (.din i)).toNat = 0x30 + 4 * i.val := by
  revert i; decide

theorem regOffset_dout_toNat (i : Fin 4) : (regOffset (.dout i)).toNat = 0x40 + 4 * i.val := by
  revert i; decide

theorem regOffset_ctr_toNat (i : Fin 4) : (regOffset (.ctr i)).toNat = 0x50 + 4 * i.val := by
  revert i; decide

/-- Every register lies at a word offset in 0x00..0x20 or 0x30..0x5C (R51). -/
theorem regOffset_range (r : WindowReg) :
    (regOffset r).toNat % 4 = 0 ∧
      ((regOffset r).toNat ≤ 0x20 ∨ (0x30 ≤ (regOffset r).toNat ∧ (regOffset r).toNat ≤ 0x5C)) := by
  cases r with
  | ctrl => decide
  | cmd => decide
  | status => decide
  | result => decide
  | payload => decide
  | key i => rw [regOffset_key_toNat]; omega
  | din i => rw [regOffset_din_toNat]; omega
  | dout i => rw [regOffset_dout_toNat]; omega
  | ctr i => rw [regOffset_ctr_toNat]; omega

/-- Nothing is mapped at 0x24..0x2C and from 0x60 on (R56). -/
theorem windowReg_eq_none_of_gap {o : Offset} (h : (0x24 ≤ o.toNat ∧ o.toNat ≤ 0x2C) ∨ 0x60 ≤ o.toNat) :
    windowReg o = none := by
  cases hr : windowReg o with
  | none => rfl
  | some r =>
    have hrange := (regOffset_range r).2
    rw [regOffset_of_windowReg o r hr] at hrange
    omega

/-! ### One Host access -/

theorem busRead_of_specified {o : Offset} {s : State} (h : readUnspecified o s = false) :
    busRead o s = s.logRead (readWindow o s) := by
  simp [busRead, h]

/-- While BUSY = 0 a Host read of a register returns the register (R57). -/
theorem hostOp_read_regOffset {s : State} (h : s.busy = false) (r : WindowReg) :
    hostOp (.read (regOffset r) .bits32) s = .next (s.logRead (readReg r s)) := by
  have hspec : readUnspecified (regOffset r) s = false := by simp [readUnspecified, h]
  rw [hostOp_read (regOffset_range r).1, busRead_of_specified hspec, readWindow_regOffset]

/-- While BUSY = 0 a Host write of a register is the register's own rule (R55). -/
theorem hostOp_write_regOffset {s : State} (h : s.busy = false) (r : WindowReg) (v : Word) :
    hostOp (.write (regOffset r) .bits32 v) s = .next (writeReg r v s) := by
  rw [hostOp_write (regOffset_range r).1, busWrite_of_idle h]

/-- The registers a Host write stores into with no other effect: the staging and operand registers (R61). -/
inductive StagingReg : WindowReg → Prop where
  | ctrl : StagingReg .ctrl
  | key (i : Fin 4) : StagingReg (.key i)
  | payload : StagingReg .payload
  | din (i : Fin 4) : StagingReg (.din i)

/-- The results of the last command, and STATUS, outlast a write of a staging register. -/
theorem writeReg_staging_keeps_results {r : WindowReg} (h : StagingReg r) (v : Word) (s : State) :
    (writeReg r v s).dout = s.dout ∧ (writeReg r v s).result = s.result ∧ (writeReg r v s).ctr = s.ctr ∧
      statusWord (writeReg r v s) = statusWord s := by
  cases h with
  | ctrl => exact ⟨rfl, rfl, rfl, rfl⟩
  | key i => exact ⟨rfl, rfl, rfl, rfl⟩
  | payload => exact ⟨rfl, rfl, rfl, rfl⟩
  | din i => exact ⟨rfl, rfl, rfl, rfl⟩

/-- The registers that ignore every write; STATUS is none of them, for its bit 3 (R55). -/
inductive ReadOnlyReg : WindowReg → Prop where
  | result : ReadOnlyReg .result
  | dout (i : Fin 4) : ReadOnlyReg (.dout i)
  | ctr (i : Fin 4) : ReadOnlyReg (.ctr i)

theorem writeReg_readOnly {r : WindowReg} (h : ReadOnlyReg r) (v : Word) (s : State) : writeReg r v s = s := by
  cases h with
  | result => rfl
  | dout i => rfl
  | ctr i => rfl

/-- The registers that a read shows as 0 (R55). -/
inductive WriteOnlyReg : WindowReg → Prop where
  | cmd : WriteOnlyReg .cmd
  | key (i : Fin 4) : WriteOnlyReg (.key i)

theorem readReg_writeOnly {r : WindowReg} (h : WriteOnlyReg r) (s : State) : readReg r s = 0#32 := by
  cases h with
  | cmd => rfl
  | key i => rfl

/-! ### The Host's step -/

theorem State.tick_of_idle {s : State} (h : s.pending = none) : s.tick = s := by
  cases s
  cases h
  rfl

/-- Where no completion is due, the step is the Host's next operation, whether a command is in progress or not. -/
theorem step_of_host_moves {s : State} {op : HostOp} {rest : List HostOp}
    (hwait : ∀ p : Pending, s.pending = some p → p.wait ≠ 0) (hhost : s.host = op :: rest) :
    step s = hostOp op (s.tick.setHost rest) := by
  have hHost : hostStep s.tick = hostOp op (s.tick.setHost rest) := by simp [hostStep, hhost]
  cases hp : s.pending with
  | none => rw [← hHost, State.tick_of_idle hp]; simp [step, agentStep, hp]
  | some p => rw [← hHost]; simp [step, agentStep, hp, engineMoves, hwait p hp, hhost]

/-- Every completion ends BUSY (R184). -/
theorem completeWord_ends_pending {w : Word} {s t : State} (h : completeWord w s = .next t) : t.pending = none := by
  rcases completeWord_next h with ⟨i, -, hi⟩ | ⟨e, -, rfl⟩
  · rcases exec_next hi with ⟨e, rfl, -⟩ | ⟨-, rfl⟩ | ⟨-, rfl⟩ | ⟨-, rfl⟩ | ⟨-, q, rfl⟩ | ⟨-, -, k, -, -, rfl⟩ |
      ⟨-, rfl⟩ | ⟨-, -, q, c, k, rfl⟩ | ⟨-, q, rfl⟩ <;> rfl
  · rfl

/-- While BUSY = 1 a Host step abandons the command, which only a reset does, or leaves every field of the block but
OVERRUN (R248). -/
theorem hostStep_of_busy {s t : State} (hb : s.busy = true) (h : hostStep s = .next t) :
    t.pending = none ∨
      t = { s with overrun := t.overrun, host := t.host, reads := t.reads, draws := t.draws } := by
  rcases hostStep_next h with ⟨-, rfl⟩ | ⟨o, rest, -, -, rfl⟩ | ⟨o, v, rest, -, -, rfl⟩ |
    ⟨rest, -, ⟨-, rfl⟩ | ⟨-, rfl⟩⟩ | ⟨rest, -, rfl⟩
  · exact .inr rfl
  · rcases busRead_eq o (s.setHost rest) with ⟨hr, -⟩ | ⟨hr, -⟩
    · rw [hr]; exact .inr rfl
    · rw [hr]; exact .inr rfl
  · rw [busWrite_of_busy (s := s.setHost rest) hb]; exact .inr rfl
  · exact .inr rfl
  · exact .inr rfl
  · exact .inl rfl

/-- A step between two states with a command pending is a Host step, so it keeps all that the completion reads (R61). -/
theorem step_keeps_pending_operands {s t : State} {p q : Pending} (h : step s = .next t) (hp : s.pending = some p)
    (hq : t.pending = some q) :
    q.word = p.word ∧
      t = { s with overrun := t.overrun, pending := t.pending, host := t.host, reads := t.reads, draws := t.draws } := by
  rcases step_next h with ⟨p', -, -, hc⟩ | ⟨-, -, -, -, hh⟩ | ⟨hn, -⟩
  · cases (completeWord_ends_pending hc).symm.trans hq
  · have hb : s.tick.busy = true := by simp [State.busy, hp]
    rcases hostStep_of_busy hb hh with ht | ht
    · cases ht.symm.trans hq
    · have hpend : t.pending = some ⟨p.word, p.wait - 1⟩ := by
        rw [ht, State.tick_pending, hp]
        rfl
      obtain rfl : q = ⟨p.word, p.wait - 1⟩ := Option.some.inj (hq.symm.trans hpend)
      refine ⟨rfl, ht.trans ?_⟩
      rw [State.tick, hpend, hp]
      rfl
  · cases hn.symm.trans hp

/-- The offsets of the staging and operand registers (R51). -/
theorem stagingReg_of_offset :
    ∀ o ∈ [0x00#8, 0x10#8, 0x14#8, 0x18#8, 0x1C#8, 0x20#8, 0x30#8, 0x34#8, 0x38#8, 0x3C#8],
      ∃ r, StagingReg r ∧ regOffset r = o := by
  simp only [List.forall_mem_cons]
  exact ⟨⟨_, .ctrl, rfl⟩, ⟨_, .key 0, rfl⟩, ⟨_, .key 1, rfl⟩, ⟨_, .key 2, rfl⟩, ⟨_, .key 3, rfl⟩, ⟨_, .payload, rfl⟩,
    ⟨_, .din 0, rfl⟩, ⟨_, .din 1, rfl⟩, ⟨_, .din 2, rfl⟩, ⟨_, .din 3, rfl⟩, by simp⟩

/-- Settles O10: the first clause is the frame of a step that leaves a command pending, the second the frame of a write
of a staging register. -/
theorem operandsAreThoseAtIssue : Obligations.OperandsAreThoseAtIssue := by
  refine ⟨fun s t p q h hp hq => step_keeps_pending_operands h hp hq, ?_⟩
  intro s o v hb ho
  obtain ⟨r, hr, rfl⟩ := stagingReg_of_offset o ho
  exact ⟨_, hostOp_write_regOffset hb r v, writeReg_staging_keeps_results hr v s⟩

/-! ### Word order (R52) -/

/-- The bits of one register after one register of the quad is replaced. -/
theorem quadWide_quadSet_extract (q : Quad) (i j : Fin 4) (v : Word) :
    (quadWide (quadSet q i v)).extractLsb' (96 - 32 * j.val) 32 =
      if j = i then v else (quadWide q).extractLsb' (96 - 32 * j.val) 32 := by
  rw [← quadWord_eq_extract, ← quadWord_eq_extract]
  split
  · next hij => rw [hij, quadWord_quadSet_same]
  · next hij => exact quadWord_quadSet_ne q hij v

/-- The low half of a quad is X2 above X3: where a KeeLoq key lies in KEY (R31, R52). -/
theorem quadWide_low64 (q : Quad) : (quadWide q).extractLsb' 0 64 = q.x2 ++ q.x3 := by
  apply BitVec.eq_of_getLsbD_eq
  intro i hi
  rw [BitVec.getLsbD_extractLsb', quadWide_getLsbD, BitVec.getLsbD_append]
  simp [hi]

/-- A CONFIGURE after which the block holds a pair has latched KEY (R182). -/
theorem execConfigure_latches_key {s t : State} (h : exec .configure s = .next t) (hc : t.configured = true) :
    t.aKey = quadWide s.key := by
  rcases execConfigure_next h with ⟨-, rfl⟩ | ⟨-, rfl⟩
  · rfl
  · cases hc

/-- CONFIGURE of a KeeLoq pair with KEYLEN = 8 succeeds (R182). -/
theorem execConfigure_klq_configured {s t : State} (hv : s.ctrl.getLsbD 0 = true)
    (hk : s.ctrl.extractLsb' 8 5 = 8#5) (h : exec .configure s = .next t) : t.configured = true := by
  rcases execConfigure_next h with ⟨-, rfl⟩ | ⟨hne, -⟩
  · rfl
  · have hvar : ctrlVariant s = .keeloq := if_pos hv
    rw [hvar] at hne
    exact absurd hk hne

/-- Settles O43: each register is its 32 bits of the quad, for reads, for writes, and in the key that CONFIGURE
latches. -/
theorem lowestOffsetIsMostSignificant : Obligations.LowestOffsetIsMostSignificant := by
  refine ⟨?words, quadWide_wideQuad, ?offsets, windowReg_regOffset, ?reads, ?writes,
    fun s t => execConfigure_latches_key, ?klqKey⟩
  case words =>
    exact fun q => ⟨(quadWord_eq_extract q 0).symm, (quadWord_eq_extract q 1).symm, (quadWord_eq_extract q 2).symm,
      (quadWord_eq_extract q 3).symm⟩
  case offsets =>
    exact fun i => ⟨regOffset_key_toNat i, regOffset_din_toNat i, regOffset_dout_toNat i, regOffset_ctr_toNat i⟩
  case reads =>
    intro s i
    simp only [readWindow_regOffset]
    refine ⟨quadWord_eq_extract s.din i, quadWord_eq_extract s.dout i, ?_⟩
    rw [readReg, quadWord_eq_extract, quadWide_wideQuad]
  case writes =>
    exact fun s i v hb =>
      ⟨⟨quadSet s.key i v, hostOp_write_regOffset hb (.key i) v, fun j => quadWide_quadSet_extract s.key i j v⟩,
        ⟨quadSet s.din i v, hostOp_write_regOffset hb (.din i) v, fun j => quadWide_quadSet_extract s.din i j v⟩⟩
  case klqKey =>
    intro s t hv hk h
    rw [execConfigure_latches_key h (execConfigure_klq_configured hv hk h), quadWide_low64]

/-! ### Malformed accesses, read-only and write-only registers, unmapped offsets (R54 to R56) -/

/-- Settles O45: the step is the Host's operation, and a malformed one is its bus error. -/
theorem malformedAccessFaults : Obligations.MalformedAccessFaults := by
  intro s o width v rest hbad hwait hhost
  have hfault := hostOp_malformed hbad v (s.tick.setHost rest)
  rcases hhost with hread | hwrite
  · rw [step_of_host_moves hwait hread, hfault.1]
  · rw [step_of_host_moves hwait hwrite, hfault.2]

/-- The offsets of RESULT, DOUT and CTR (R51). -/
theorem readOnlyReg_of_offset :
    ∀ o ∈ [0x0C#8, 0x40#8, 0x44#8, 0x48#8, 0x4C#8, 0x50#8, 0x54#8, 0x58#8, 0x5C#8],
      ∃ r, ReadOnlyReg r ∧ regOffset r = o := by
  simp only [List.forall_mem_cons]
  exact ⟨⟨_, .result, rfl⟩, ⟨_, .dout 0, rfl⟩, ⟨_, .dout 1, rfl⟩, ⟨_, .dout 2, rfl⟩, ⟨_, .dout 3, rfl⟩,
    ⟨_, .ctr 0, rfl⟩, ⟨_, .ctr 1, rfl⟩, ⟨_, .ctr 2, rfl⟩, ⟨_, .ctr 3, rfl⟩, by simp⟩

/-- The offsets of CMD and KEY (R51). -/
theorem writeOnlyReg_of_offset :
    ∀ o ∈ [0x04#8, 0x10#8, 0x14#8, 0x18#8, 0x1C#8], ∃ r, WriteOnlyReg r ∧ regOffset r = o := by
  simp only [List.forall_mem_cons]
  exact ⟨⟨_, .cmd, rfl⟩, ⟨_, .key 0, rfl⟩, ⟨_, .key 1, rfl⟩, ⟨_, .key 2, rfl⟩, ⟨_, .key 3, rfl⟩, by simp⟩

/-- Settles O46: each write is the rule of the register at its offset, each read the register's value. -/
theorem readOnlyRegistersIgnoreWrites : Obligations.ReadOnlyRegistersIgnoreWrites := by
  intro s v hb
  have hwrite := fun r => hostOp_write_regOffset hb r v
  refine ⟨?readOnly, ?status, hwrite (.key 0), hwrite (.key 1), hwrite (.key 2), hwrite (.key 3),
    ⟨_, _, hwrite .cmd⟩, ?writeOnly⟩
  case readOnly =>
    intro o ho
    obtain ⟨r, hr, rfl⟩ := readOnlyReg_of_offset o ho
    rw [hwrite, writeReg_readOnly hr]
  case status =>
    intro h3
    have hkeep : writeReg .status v s = s := by rw [writeReg, h3, if_neg Bool.false_ne_true]
    exact (hwrite .status).trans (by rw [hkeep])
  case writeOnly =>
    intro o ho
    obtain ⟨r, hr, rfl⟩ := writeOnlyReg_of_offset o ho
    rw [hostOp_read_regOffset hb, readReg_writeOnly hr]
    rfl

/-- Settles O47: nothing is mapped in the two gaps, so a read is of no register and only OVERRUN can change. -/
theorem unmappedOffsetsReadZero : Obligations.UnmappedOffsetsReadZero := by
  intro s o v halign hgap
  have hnone := windowReg_eq_none_of_gap hgap
  refine ⟨?read, ?idleWrite, ?busyWrite⟩
  case read =>
    have hspec : readUnspecified o s = false := by simp [readUnspecified, hnone]
    have hzero : readWindow o s = 0#32 := by simp [readWindow, hnone]
    rw [hostOp_read halign, busRead_of_specified hspec, hzero]
    rfl
  case idleWrite =>
    intro hb
    have hkeep : busWrite o v s = s := by simp [busWrite, hb, hnone]
    rw [hostOp_write halign, hkeep]
  case busyWrite =>
    intro hb
    rw [hostOp_write halign, busWrite_of_busy hb]
    rfl

end Sys2Proof.Machine
end

section
/-! The decoder (30_encoding.md): a row of the opcode map covers one word only, the command's encoding, and which words
are encodings. -/

namespace Sys2Proof

/-! ### Decode and encode (R70 to R72) -/

/-- What is said of each command as syntax, for all of them. -/
theorem Laws.Encoding.statement (i : Instr) : Laws.Encoding.Statement i := by
  cases i with
  | nop => exact Laws.Encoding.nop
  | configure => exact Laws.Encoding.configure
  | generate => exact Laws.Encoding.generate
  | aesCompare => exact Laws.Encoding.aesCompare
  | klqReceive => exact Laws.Encoding.klqReceive
  | klqEncrypt => exact Laws.Encoding.klqEncrypt
  | klqDecrypt => exact Laws.Encoding.klqDecrypt

@[simp] theorem decode_encode (i : Instr) : decode (encode i) = .ok i := by
  obtain ⟨-, -, -, hdecode⟩ := Laws.Encoding.statement i
  exact hdecode

/-- Every row of the opcode map compares the whole word with the encoding of its command (R72). -/
theorem opcodeTable_compares_whole_word :
    ∀ r ∈ opcodeTable, r.mask = BitVec.allOnes 32 ∧ r.pattern = encode r.instr := by
  decide

theorem covers_iff_eq_encode {r : OpcodeRow} (hr : r ∈ opcodeTable) (w : Word) :
    r.covers w = true ↔ w = encode r.instr := by
  obtain ⟨hmask, hpattern⟩ := opcodeTable_compares_whole_word r hr
  rw [OpcodeRow.covers, hmask, hpattern, BitVec.and_allOnes, beq_iff_eq]

/-- A command is decoded from its encoding alone: the row that was found covers no other word (R72). -/
theorem decode_eq_ok_iff {w : Word} {i : Instr} : decode w = .ok i ↔ w = encode i := by
  constructor
  · intro h
    unfold decode at h
    split at h
    · next r hfind =>
      cases h
      have hcovers := List.find?_some hfind
      exact (covers_iff_eq_encode (List.mem_of_find?_eq_some hfind) w).1 hcovers
    · cases h
  · rintro rfl
    exact decode_encode i

/-! ### The legal words (R71, R72) -/

/-- The opcodes of the seven commands are all of 0..6 (R71). -/
theorem exists_opcode_of_le_six : ∀ n ≤ 6, ∃ i : Instr, (opcode i).toNat = n
  | 0, _ => ⟨.nop, rfl⟩
  | 1, _ => ⟨.configure, rfl⟩
  | 2, _ => ⟨.generate, rfl⟩
  | 3, _ => ⟨.aesCompare, rfl⟩
  | 4, _ => ⟨.klqReceive, rfl⟩
  | 5, _ => ⟨.klqEncrypt, rfl⟩
  | 6, _ => ⟨.klqDecrypt, rfl⟩
  | n + 7, h => absurd h (by omega)

/-- A command word is its reserved bits above its OPCODE (R70). -/
theorem word_eq_reserved_append_opcode (w : Word) : w = w.extractLsb' 8 24 ++ w.extractLsb' 0 8 := by
  rw [BitVec.extractLsb'_append_extractLsb'_eq_extractLsb' (by rfl)]
  exact BitVec.extractLsb'_eq_self.symm

theorem wordWellFormed_iff {w : Word} :
    wordWellFormed w = true ↔ w.extractLsb' 8 24 = 0#24 ∧ (w.extractLsb' 0 8).toNat ≤ 6 := by
  simp [wordWellFormed, reservedZero, opcodeAssigned]

/-- The well-formed words are the encodings of the commands. -/
theorem wordWellFormed_iff_exists_encode {w : Word} : wordWellFormed w = true ↔ ∃ i : Instr, w = encode i := by
  constructor
  · intro h
    obtain ⟨hreserved, hopcode⟩ := wordWellFormed_iff.1 h
    obtain ⟨i, hi⟩ := exists_opcode_of_le_six _ hopcode
    refine ⟨i, ?_⟩
    calc w = w.extractLsb' 8 24 ++ w.extractLsb' 0 8 := word_eq_reserved_append_opcode w
      _ = encode i := by rw [hreserved, ← BitVec.eq_of_toNat_eq hi, encode]
  · rintro ⟨i, rfl⟩
    obtain ⟨-, hwf, -, -⟩ := Laws.Encoding.statement i
    exact hwf

/-! ### The completion of an illegal word (R72, R200) -/

namespace Machine

theorem completeWord_of_illegal {w : Word} (h : ∀ i : Instr, w ≠ encode i) (s : State) :
    completeWord w s = .next (s.raise .illegalCommand) := by
  unfold completeWord
  split
  · next i hi => exact absurd (decode_eq_ok_iff.1 hi) (h i)
  · rfl

/-- Settles O3: a row of the opcode map covers its command's encoding and no other word, the encodings are the
well-formed words, and where no row covers the word its completion is `State.raise`. -/
theorem wholeWordIsDecoded : Obligations.WholeWordIsDecoded := by
  intro w
  refine ⟨fun i => decode_eq_ok_iff, ?_, completeWord_of_illegal⟩
  rw [← wordWellFormed_iff, wordWellFormed_iff_exists_encode]
  exact exists_congr fun i => decode_eq_ok_iff

end Machine

end Sys2Proof
end

section
/-! Exclusive-or as a sum: Mathlib's Boolean ring on `Bool` has `^^` for `+` and `&&` for `*`, so that exclusive-ors over
taps, rounds and key bits are finite sums, and a term that is added twice drops out. -/

namespace Sys2Proof.Machine

variable {ι κ : Type}

theorem foldl_xor_eq_add (l : List ι) (f : ι → Bool) (b : Bool) :
    l.foldl (fun p i => p ^^ f i) b = b + (l.map f).sum := by
  induction l generalizing b with
  | nil => rw [List.foldl_nil, List.map_nil, List.sum_nil, add_zero]
  | cons i l ih => rw [List.foldl_cons, ih, List.map_cons, List.sum_cons, ← add_assoc, Bool.add_eq_xor b]

theorem foldl_xor_eq_sum [DecidableEq ι] {l : List ι} (h : l.Nodup) (f : ι → Bool) :
    l.foldl (fun p i => p ^^ f i) false = ∑ i ∈ l.toFinset, f i := by
  rw [foldl_xor_eq_add, List.sum_toFinset f h, ← Bool.zero_eq_false, zero_add]

/-- Adding a bit to itself keeps it exactly an odd number of times. -/
theorem nsmul_eq_ite_odd (n : Nat) (b : Bool) : n • b = if Odd n then b else 0 := by
  rcases Nat.even_or_odd' n with ⟨k, rfl | rfl⟩
  · rw [mul_nsmul', two_nsmul, BooleanRing.add_self, if_neg (by simp)]
  · rw [add_nsmul, mul_nsmul', two_nsmul, BooleanRing.add_self, if_pos (by simp), one_nsmul, zero_add]

/-- A sum of values that depend on `g i` alone is one over the values that `g` takes an odd number of times. -/
theorem sum_comp_eq_sum_odd [DecidableEq κ] {s : Finset ι} {t : Finset κ} {g : ι → κ} (h : ∀ i ∈ s, g i ∈ t)
    (f : κ → Bool) : ∑ i ∈ s, f (g i) = ∑ j ∈ t with Odd (s.filter (g · = j)).card, f j := by
  simp only [← Finset.sum_fiberwise_of_maps_to' h, Finset.sum_filter _ f, Finset.sum_const, nsmul_eq_ite_odd]

/-- An exclusive-or is 1 exactly if an odd number of its terms are. -/
theorem sum_eq_decide_odd (s : Finset ι) (f : ι → Bool) :
    ∑ i ∈ s, f i = decide (Odd (s.filter (f · = true)).card) := by
  have hterm : ∀ b : Bool, b = if b = true then 1 else 0 := by decide
  rw [Finset.sum_congr rfl fun i _ => hterm (f i), ← Finset.sum_filter, Finset.sum_const, nsmul_eq_ite_odd]
  rfl

theorem length_filter_range (n : Nat) (p : Nat → Bool) :
    ((List.range n).filter p).length = ((Finset.range n).filter (p · = true)).card := by
  rw [← List.toFinset_card_of_nodup (List.nodup_range.filter p), List.toFinset_filter, List.toFinset_range]

theorem parity_eq_sum {n : Nat} (v : BitVec n) : parity v = ∑ i ∈ Finset.range n, v.getLsbD i := by
  rw [parity, foldl_xor_eq_sum List.nodup_range, List.toFinset_range]

/-- The parity of a masked word is the exclusive-or of its bits in the mask. -/
theorem parity_and {n : Nat} (v m : BitVec n) :
    parity (v &&& m) = ∑ i ∈ Finset.range n with m.getLsbD i = true, v.getLsbD i := by
  rw [parity_eq_sum, Finset.sum_filter]
  refine Finset.sum_congr rfl fun i _ => ?_
  rw [BitVec.getLsbD_and]
  cases m.getLsbD i with
  | false => exact Bool.and_false _
  | true => exact Bool.and_true _

end Sys2Proof.Machine
end

section
/-! The KeeloqCipher (40_keeloq_cipher.md): packing, the taps, the round keys, the 528 rounds and their closed form, and
the two commands that expose the cipher. -/

namespace Sys2Proof.Machine

/-! ### Packing (R100, R107) -/

/-- Settles O20: bit by bit, from the counter's four bits on above the payload's 28. -/
theorem packPlacesCounterAndPayload : Obligations.PackPlacesCounterAndPayload := by
  intro p c
  have hcounter : ∀ i < 32, (0xF#32).getLsbD i = decide (i < 4) := by decide
  have hpayload : ∀ i < 32, (0x0FFFFFFF#32).getLsbD i = decide (i < 28) := by decide
  apply BitVec.eq_of_getLsbD_eq
  intro i hi
  replace hi : i < 32 := hi
  rw [klqPack_eq, BitVec.getLsbD_or, BitVec.getLsbD_shiftLeft, BitVec.getLsbD_and, BitVec.getLsbD_and,
    hcounter (i - 28) (by omega), hpayload i hi, BitVec.getLsbD_append]
  by_cases h28 : i < 28
  · simp [h28, hi]
  · have h4 : i - 28 < 4 := by omega
    simp [h28, h4, hi]

/-- Packing operands that fit discards nothing. -/
theorem klqPack_setWidth (p : KlqPayload) (c : KlqCounter) : klqPack (p.setWidth 32) (c.setWidth 32) = c ++ p := by
  have hp : (p.setWidth 32).extractLsb' 0 28 = p := by simp [← BitVec.setWidth_eq_extractLsb']
  have hc : (c.setWidth 32).extractLsb' 0 4 = c := by simp [← BitVec.setWidth_eq_extractLsb']
  rw [packPlacesCounterAndPayload, hp, hc]

@[simp] theorem klqPayloadOf_append (p : KlqPayload) (c : KlqCounter) : klqPayloadOf (c ++ p) = p :=
  BitVec.extractLsb'_append_eq_right

@[simp] theorem klqCounterOf_append (p : KlqPayload) (c : KlqCounter) : klqCounterOf (c ++ p) = c :=
  BitVec.extractLsb'_append_eq_left

theorem klqCounterOf_append_klqPayloadOf (b : KlqBlock) : klqCounterOf b ++ klqPayloadOf b = b := by
  rw [klqCounterOf_eq, klqPayloadOf_eq, BitVec.extractLsb'_append_extractLsb'_eq_extractLsb' (by rfl)]
  exact BitVec.extractLsb'_eq_self

/-- Settles O25: a packed payload and counter lie beside each other in the block. -/
theorem unpackSplitsTheBlock : Obligations.UnpackSplitsTheBlock := by
  refine ⟨fun b => ⟨rfl, rfl, klqCounterOf_append_klqPayloadOf b⟩, fun p c => ?_⟩
  rw [klqPack_setWidth]
  exact ⟨klqPayloadOf_append p c, klqCounterOf_append p c⟩

/-! ### The taps and the round keys (R101, R102) -/

theorem klqTaps_lt : ∀ t ∈ Config.klqTaps, t < 32 := by decide

theorem klqNlf_eq_sum (rk : KlqRoundKey) : klqNlf rk = ∑ t ∈ Config.klqTaps.toFinset, rk.getLsbD t :=
  foldl_xor_eq_sum (by decide) rk.getLsbD

/-- Settles O21: the taps are the set bits of the mask. -/
theorem nlfIsTheParityOfTheTaps : Obligations.NlfIsTheParityOfTheTaps := by
  intro rk
  have hmask : (Finset.range 32).filter ((0x154AECAD#32).getLsbD · = true) = Config.klqTaps.toFinset := by decide
  constructor
  · simp only [klqNlf, Config.klqTaps, List.foldl_cons, List.foldl_nil, Bool.false_xor]
  · rw [parity_and, hmask, klqNlf_eq_sum]

theorem klqRoundKey_getLsbD (K : KlqKey) (r : Nat) {i : Nat} (hi : i < 32) :
    (klqRoundKey K r).getLsbD i = K.getLsbD (r % 64 + i) := by
  simp [klqRoundKey_eq, hi]

/-- Settles O22: each bit is one of the master key's, and past bit 63 there is none. -/
theorem roundKeyIsAShiftOfTheMasterKey : Obligations.RoundKeyIsAShiftOfTheMasterKey := by
  intro K r
  refine ⟨rfl, fun i hi _ => klqRoundKey_getLsbD K r hi, ?pastTheKey, ?phase63⟩
  case pastTheKey =>
    intro i hi hge
    rw [klqRoundKey_getLsbD K r hi, BitVec.getLsbD_of_ge K _ hge]
  case phase63 =>
    intro hr
    apply BitVec.eq_of_getLsbD_eq
    intro i hi
    rw [klqRoundKey_getLsbD K r hi, hr]
    cases i with
    | zero => simp
    | succ i =>
      rw [BitVec.getLsbD_of_ge K _ (show 64 ≤ 63 + (i + 1) by omega)]
      simp

/-! ### The round (R103) -/

@[simp] theorem klqSpread_getLsbD (f : Bool) {i : Nat} (hi : i < 32) : (klqSpread f).getLsbD i = f := by
  cases f with
  | false => exact BitVec.getLsbD_zero
  | true => exact (BitVec.getLsbD_allOnes).trans (decide_eq_true hi)

/-- Settles O23: the one bit of the round is in every bit of the spread word, and the feedback register is two fields. -/
theorem roundXorsOneBitIntoEveryBit : Obligations.RoundXorsOneBitIntoEveryBit := by
  intro b rk
  refine ⟨?block, ?rotated, ?top⟩
  case block =>
    intro i hi
    rw [klqRound, BitVec.getLsbD_xor, klqSpread_getLsbD _ hi]
  case rotated =>
    intro i hi
    simp [klqFeedback_eq, hi, Nat.add_comm 1 i]
  case top => simp [klqFeedback_eq]

/-! ### The 528 rounds (R104, R105, R108) -/

/-- The block after the first `n` rounds of a schedule of round keys. -/
def klqRun (k : Nat → KlqRoundKey) (b : KlqBlock) (n : Nat) : KlqBlock :=
  (List.range n).foldl (fun b r => klqRound b (k r)) b

theorem klqEncrypt_eq_klqRun (K : KlqKey) (b : KlqBlock) : klqEncrypt K b = klqRun (klqRoundKey K) b 528 := rfl

theorem klqDecrypt_eq_klqRun (K : KlqKey) (b : KlqBlock) :
    klqDecrypt K b = klqRun (fun j => klqRoundKey K (527 - j)) b 528 := rfl

theorem klqRun_succ (k : Nat → KlqRoundKey) (b : KlqBlock) (n : Nat) :
    klqRun k b (n + 1) = klqRound (klqRun k b n) (k n) := by
  rw [klqRun, List.range_succ, List.foldl_append]
  rfl

/-- Settles O24: the sequences are the blocks after each number of rounds. -/
theorem schedulesRunEveryRoundInOrder : Obligations.SchedulesRunEveryRoundInOrder := fun K b =>
  ⟨⟨klqRun (klqRoundKey K) b, rfl, rfl, fun r _ => klqRun_succ _ b r⟩,
    ⟨klqRun (fun j => klqRoundKey K (527 - j)) b, rfl, rfl, fun j _ => klqRun_succ _ b j⟩⟩

/-- Rounds exclusive-or the block with the sum of their bits. -/
theorem klqRun_eq_xor (k : Nat → KlqRoundKey) (b : KlqBlock) (n : Nat) :
    klqRun k b n = b ^^^ klqSpread (∑ r ∈ Finset.range n, klqNlf (k r)) := by
  induction n with
  | zero => exact BitVec.xor_zero.symm
  | succ n ih =>
    rw [klqRun_succ, ih, klqRound, BitVec.xor_assoc, klqSpread_xor, Finset.sum_range_succ, Bool.add_eq_xor]

theorem klqEncrypt_eq_xor (K : KlqKey) (b : KlqBlock) :
    klqEncrypt K b = b ^^^ klqSpread (∑ r ∈ Finset.range 528, klqNlf (klqRoundKey K r)) := klqRun_eq_xor _ b 528

/-- The reverse order of the round keys does not matter. -/
theorem klqDecrypt_eq_klqEncrypt (K : KlqKey) (b : KlqBlock) : klqDecrypt K b = klqEncrypt K b := by
  rw [klqDecrypt_eq_klqRun, klqRun_eq_xor, klqEncrypt_eq_xor,
    ← Finset.sum_range_reflect (fun r => klqNlf (klqRoundKey K r))]

theorem klqEncrypt_klqEncrypt (K : KlqKey) (b : KlqBlock) : klqEncrypt K (klqEncrypt K b) = b := by
  simp only [klqEncrypt_eq_xor, BitVec.xor_assoc, BitVec.xor_self, BitVec.xor_zero]

theorem klqDecrypt_klqEncrypt (K : KlqKey) (b : KlqBlock) : klqDecrypt K (klqEncrypt K b) = b := by
  rw [klqDecrypt_eq_klqEncrypt, klqEncrypt_klqEncrypt]

/-- Settles O26: both schedules are one involution. -/
theorem decryptInvertsEncrypt : Obligations.DecryptInvertsEncrypt := by
  intro K
  refine ⟨fun p c => ?_, klqDecrypt_klqEncrypt K, Function.Involutive.bijective (klqEncrypt_klqEncrypt K)⟩
  rw [klqDecrypt_klqEncrypt, klqPack_setWidth]
  exact ⟨klqPayloadOf_append p c, klqCounterOf_append p c⟩

/-! ### The closed form (R109) -/

/-- 528 rounds are 8 turns of the 64 phases and 16 rounds. -/
theorem card_rounds_of_phase {s : Nat} (hs : s < 64) :
    ((Finset.range 528).filter (· % 64 = s)).card = if s ≤ 15 then 9 else 8 := by
  have hcount := Nat.count_modEq_card 528 (r := 64) (by omega) s
  rw [Nat.count_eq_card_filter_range] at hcount
  simp only [Nat.ModEq, Nat.mod_eq_of_lt hs] at hcount
  rw [hcount]
  split <;> split <;> omega

/-- A phase that occurs 8 times drops out of a sum over the rounds. -/
theorem sum_rounds_eq_sum_phases (f : Nat → Bool) :
    ∑ r ∈ Finset.range 528, f (r % 64) = ∑ s ∈ Finset.range 16, f s := by
  rw [sum_comp_eq_sum_odd (t := Finset.range 64) fun r _ => Finset.mem_range.2 (Nat.mod_lt r (by omega))]
  refine Finset.sum_congr (Finset.ext fun s => ?_) fun _ _ => rfl
  rw [Finset.mem_filter, Finset.mem_range, Finset.mem_range]
  constructor
  · rintro ⟨hs, hodd⟩
    by_contra hge
    rw [card_rounds_of_phase hs, if_neg (by omega)] at hodd
    exact absurd hodd (by decide)
  · intro hs
    rw [card_rounds_of_phase (by omega), if_pos (by omega)]
    exact ⟨by omega, by decide⟩

/-- The bits of Q are those that an odd number of pairs of a phase and a tap reach. -/
theorem odd_card_pairs_iff : ∀ j < 64,
    (Odd ((Finset.range 16 ×ˢ Config.klqTaps.toFinset).filter fun p => p.1 + p.2 = j).card ↔
      (0x00000CC6575D5B9B#64).getLsbD j = true) := by
  decide

/-- A key bit that an even number of pairs of a phase and a tap reach drops out of a sum over the pairs. -/
theorem sum_pairs_eq_parity (K : KlqKey) :
    ∑ s ∈ Finset.range 16, ∑ t ∈ Config.klqTaps.toFinset, K.getLsbD (s + t) =
      parity (K &&& 0x00000CC6575D5B9B#64) := by
  have hreach : ∀ p ∈ Finset.range 16 ×ˢ Config.klqTaps.toFinset, p.1 + p.2 ∈ Finset.range 64 := by
    intro p hp
    obtain ⟨hs, ht⟩ := Finset.mem_product.1 hp
    have hs := Finset.mem_range.1 hs
    have ht := klqTaps_lt _ (List.mem_toFinset.1 ht)
    exact Finset.mem_range.2 (by omega)
  rw [← Finset.sum_product' (f := fun s t => K.getLsbD (s + t)), sum_comp_eq_sum_odd hreach K.getLsbD, parity_and]
  exact Finset.sum_congr (Finset.filter_congr fun j hj => odd_card_pairs_iff j (Finset.mem_range.1 hj)) fun _ _ => rfl

theorem klqNlf_klqRoundKey (K : KlqKey) (r : Nat) :
    klqNlf (klqRoundKey K r) = ∑ t ∈ Config.klqTaps.toFinset, K.getLsbD (r % 64 + t) := by
  rw [klqNlf_eq_sum]
  exact Finset.sum_congr rfl fun t ht => klqRoundKey_getLsbD K r (klqTaps_lt t (List.mem_toFinset.1 ht))

/-- The bits of the 528 rounds add up to the parity of the key's bits in Q. -/
theorem sum_klqNlf_klqRoundKey (K : KlqKey) :
    ∑ r ∈ Finset.range 528, klqNlf (klqRoundKey K r) = parity (K &&& 0x00000CC6575D5B9B#64) := by
  simp only [klqNlf_klqRoundKey]
  rw [sum_rounds_eq_sum_phases fun s => ∑ t ∈ Config.klqTaps.toFinset, K.getLsbD (s + t), sum_pairs_eq_parity]

theorem klqEncrypt_eq_xor_parity (K : KlqKey) (b : KlqBlock) :
    klqEncrypt K b = b ^^^ klqSpread (parity (K &&& 0x00000CC6575D5B9B#64)) := by
  rw [klqEncrypt_eq_xor, sum_klqNlf_klqRoundKey]

/-- Settles O27: the bits of the rounds are added up, first by phase and then by key bit. -/
theorem cipherClosedForm : Obligations.CipherClosedForm := by
  refine ⟨fun b rk rk' => ⟨by rw [klqRound, klqSpread_eq], klqRound_comm b rk rk'⟩, ?phases, ?bitsOfQ, ?roundKey,
    ?rounds, ?closedForm, ?outsideQ⟩
  case phases =>
    intro s hs
    rw [length_filter_range, ← card_rounds_of_phase hs]
    simp only [beq_iff_eq]
  case bitsOfQ => decide
  case roundKey =>
    intro K s t hs ht
    rw [klqRoundKey_getLsbD K s (klqTaps_lt t ht), Nat.mod_eq_of_lt (by omega)]
  case rounds =>
    intro K b
    rw [klqEncrypt_eq_xor, sum_eq_decide_odd, ← length_filter_range, klqSpread_eq]
    simp only [decide_eq_true_eq, Nat.odd_iff]
  case closedForm =>
    intro K b
    refine ⟨?_, klqDecrypt_eq_klqEncrypt K b, klqEncrypt_klqEncrypt K b, fun h => ?_⟩
    · rw [klqEncrypt_eq_xor_parity, klqSpread_eq]
    · rw [klqEncrypt_eq_xor_parity, h, klqSpread_false, BitVec.xor_zero]
  case outsideQ =>
    intro K L b h
    rw [klqEncrypt_eq_xor_parity, klqEncrypt_eq_xor_parity, h]

/-! ### The commands (R110 to R112) -/

/-- KLQ_ENCRYPT of a KeeLoq pair is its own rule (R110). -/
theorem execKlqEncrypt_of_pair {s : State} (hc : s.configured = true) (hv : s.aVariant = .keeloq) :
    execKlqEncrypt s =
      .next (s.setDout (quadLow (klqEncrypt (klqKey s) (operandCounter s ++ operandPayload s)))).finish := by
  rw [← klqPack_setWidth]
  exact withPair_of_configured hc (by rintro _ ⟨⟩; exact hv)

/-- KLQ_DECRYPT of a KeeLoq pair is its own rule (R112). -/
theorem execKlqDecrypt_of_pair {s : State} (hc : s.configured = true) (hv : s.aVariant = .keeloq) :
    execKlqDecrypt s = .next (s.setDout ⟨0#32, 0#32,
      (klqCounterOf (klqDecrypt (klqKey s) (operandBlock s))).setWidth 32,
      (klqPayloadOf (klqDecrypt (klqKey s) (operandBlock s))).setWidth 32⟩).finish :=
  withPair_of_configured hc (by rintro _ ⟨⟩; exact hv)

/-- Settles O28: the rule of the pair, or the error of the pair checks. -/
theorem klqEncryptCommand : Obligations.KlqEncryptCommand :=
  ⟨decode_encode .klqEncrypt, fun _ => ⟨execKlqEncrypt_of_pair, withPair_of_unconfigured,
    fun hc hv => withPair_of_wrongVariant hc (by rw [hv]; decide)⟩⟩

/-- Settles O30: the rule of the pair, or the error of the pair checks. -/
theorem klqDecryptCommand : Obligations.KlqDecryptCommand :=
  ⟨decode_encode .klqDecrypt, fun _ => ⟨execKlqDecrypt_of_pair, withPair_of_unconfigured,
    fun hc hv => withPair_of_wrongVariant hc (by rw [hv]; decide)⟩⟩

theorem pairError_setCtr (need : Option Variant) (s : State) (c : Counter) :
    pairError need (s.setCtr c) = pairError need s := rfl

/-- A command that needs a pair and whose own rule answers a state with CTR set alike does so as a whole. -/
theorem withPair_setCtr {need : Option Variant} {s t u : State} {c : Counter}
    (h : withPair need s (.next u) = .next t) :
    withPair need (s.setCtr c) (.next (u.setCtr c)) = .next (t.setCtr c) := by
  rcases withPair_next h with ⟨e, he, rfl⟩ | ⟨he, hu⟩
  · rw [withPair, pairError_setCtr, he]
    rfl
  · cases hu
    rw [withPair, pairError_setCtr, he]

/-- Settles O29: the pair checks and the command's own rule do not look at CTR. -/
theorem klqEncryptIgnoresTheCounter : Obligations.KlqEncryptIgnoresTheCounter := by
  intro s t c h
  refine ⟨?_, withPair_setCtr h⟩
  rcases execKlqEncrypt_next h with ⟨e, -, rfl⟩ | ⟨-, q, rfl⟩
  · exact s.raise_ctr e
  · exact s.setDout_ctr q

end Sys2Proof.Machine
end

section
/-! The CodeGenerator (41_code_generator.md): the code of a counter under each variant, and the command that computes it
for the Host. -/

namespace Sys2Proof.Machine

/-! ### The KeeLoq code of a counter (R132) -/

/-- The mask of the counter keeps its residue modulo 16. -/
theorem ofNat_and_klqCtrMask (n : Nat) : BitVec.ofNat 32 n &&& 0xF#32 = (BitVec.ofNat 4 n).setWidth 32 := by
  apply BitVec.eq_of_toNat_eq
  rw [BitVec.toNat_and, BitVec.toNat_setWidth, BitVec.toNat_ofNat, BitVec.toNat_ofNat, BitVec.toNat_ofNat,
    show 15 % 2 ^ 32 = 2 ^ 4 - 1 from rfl, Nat.and_two_pow_sub_one_eq_mod]
  omega

theorem klqGen_eq_klqEncrypt (K : KlqKey) (P : KlqPayload) (n : Nat) :
    klqGen K P n = klqEncrypt K (BitVec.ofNat 4 n ++ P) := by
  rw [klqGen_eq, ofNat_and_klqCtrMask, klqPack_setWidth]

/-- Settles O32: the code is that of the four-bit counter, which 16 steps leave alone. -/
theorem klqGenIsCyclic : Obligations.KlqGenIsCyclic := by
  intro K P n
  have hperiod : BitVec.ofNat 4 (n + 16) = BitVec.ofNat 4 n :=
    BitVec.eq_of_toNat_eq (Nat.add_mod_right n 16)
  refine ⟨klqGen_eq_klqEncrypt K P n, ?_⟩
  rw [klqGen_eq_klqEncrypt, klqGen_eq_klqEncrypt, hperiod]

/-! ### The multiplexer (R133) and GENERATE (R136) -/

theorem gen_generateCounter_of_aes {s : State} (hv : s.aVariant = .aes) :
    gen s (generateCounter s) = .aes (aes128 s.aKey (operandWide s)) := by
  rw [gen, generateCounter, hv]

theorem gen_generateCounter_of_keeloq {s : State} (hv : s.aVariant = .keeloq) :
    gen s (generateCounter s) = .keeloq (klqEncrypt (klqKey s) (operandGenCounter s ++ s.aPayload)) := by
  have hcounter (c : KlqCounter) : BitVec.ofNat 4 (c.setWidth 128).toNat = c := by
    rw [BitVec.ofNat_toNat, BitVec.setWidth_setWidth_of_le _ (by decide), BitVec.setWidth_eq]
  rw [generateCounter_keeloq hv, gen, hv]
  exact congrArg Code.keeloq ((klqGen_eq_klqEncrypt ..).trans (by rw [hcounter]))

/-- GENERATE of a pair answers its code, whatever the variant. -/
theorem execGenerate_of_pair {s : State} (hc : s.configured = true) :
    execGenerate s = .next (s.setDout (codeQuad (gen s (generateCounter s)))).finish :=
  withPair_of_configured hc (by rintro _ ⟨⟩)

theorem execGenerate_of_aes {s : State} (hc : s.configured = true) (hv : s.aVariant = .aes) :
    execGenerate s = .next (s.setDout (wideQuad (aes128 s.aKey (operandWide s)))).finish := by
  rw [execGenerate_of_pair hc, gen_generateCounter_of_aes hv, codeQuad]

theorem execGenerate_of_keeloq {s : State} (hc : s.configured = true) (hv : s.aVariant = .keeloq) :
    execGenerate s =
      .next (s.setDout (quadLow (klqEncrypt (klqKey s) (operandGenCounter s ++ s.aPayload)))).finish := by
  rw [execGenerate_of_pair hc, gen_generateCounter_of_keeloq hv, codeQuad]

/-- Settles O33: the code of the pair's variant, or the error of the pair checks. -/
theorem generateCommand : Obligations.GenerateCommand :=
  ⟨decode_encode .generate, fun _ => ⟨execGenerate_of_aes, execGenerate_of_keeloq, withPair_of_unconfigured⟩⟩

end Sys2Proof.Machine
end

section
/-! The RollingCodeMatcher (42_rolling_matcher.md): what the two window searches find, what each matching command answers
then, and the statements about acceptance and rejection. -/

namespace Sys2Proof.Machine

/-! ### The window searches (R153, R161) -/

/-- Candidates below a present one are present, so only their codes are left to differ (R152, R153). -/
theorem aesMatch_eq_some {K : AesKey} {c : Counter} {tol : Tolerance} {r : AesBlock} {k : Nat} :
    aesMatch K c tol r = some k ↔
      (c.toNat + k < 2 ^ 128 ∧ aes128 K (BitVec.ofNat 128 (c.toNat + k)) = r) ∧ k ≤ tol.toNat ∧
        ∀ j < k, aes128 K (BitVec.ofNat 128 (c.toNat + j)) ≠ r := by
  simp only [aesMatch, leastOffset_eq_some, decide_eq_true_eq, decide_eq_false_iff_not, aesCandidate_eq_some, not_and]
  refine and_congr_right fun ⟨hlt, _⟩ => and_congr_right fun _ => forall₂_congr fun j hj => ?_
  exact ⟨fun h => h (by omega), fun h _ => h⟩

theorem aesMatch_eq_none {K : AesKey} {c : Counter} {tol : Tolerance} {r : AesBlock} :
    aesMatch K c tol r = none ↔
      ∀ k ≤ tol.toNat, c.toNat + k < 2 ^ 128 → aes128 K (BitVec.ofNat 128 (c.toNat + k)) ≠ r := by
  simp only [aesMatch, leastOffset_eq_none, decide_eq_false_iff_not, aesCandidate_eq_some, not_and, ne_eq]

theorem eq_klqCandidate_iff {l ec : KlqCounter} {i : Nat} : ec = klqCandidate l i ↔ ec.toNat = (l.toNat + i) % 16 := by
  rw [← BitVec.toNat_inj, klqCandidate_toNat]

theorem klqMatch_eq_some {l ec : KlqCounter} {tol : Tolerance} {i : Nat} :
    klqMatch l tol ec = some i ↔
      ec.toNat = (l.toNat + i) % 16 ∧ i ≤ tol.toNat ∧ ∀ j < i, ec.toNat ≠ (l.toNat + j) % 16 := by
  simp only [klqMatch, leastOffset_eq_some, decide_eq_true_eq, decide_eq_false_iff_not, eq_klqCandidate_iff, ne_eq]

theorem klqMatch_eq_none {l ec : KlqCounter} {tol : Tolerance} :
    klqMatch l tol ec = none ↔ ∀ i ≤ tol.toNat, ec.toNat ≠ (l.toNat + i) % 16 := by
  simp only [klqMatch, leastOffset_eq_none, decide_eq_false_iff_not, eq_klqCandidate_iff, ne_eq]

/-- The distance from LAST, modulo 16, is the first offset that reaches the extracted counter (R166). -/
theorem klqMatch_eq_distance (l ec : KlqCounter) (tol : Tolerance) :
    klqMatch l tol ec = if (ec - l).toNat ≤ tol.toNat then some (ec - l).toNat else none := by
  have hl := klqCounter_lt l
  have hec := klqCounter_lt ec
  have hd : (ec - l).toNat = (16 - l.toNat + ec.toNat) % 16 := BitVec.toNat_sub ec l
  split
  · next hle => exact klqMatch_eq_some.2 ⟨by omega, hle, fun j hj => by omega⟩
  · next hgt => exact klqMatch_eq_none.2 fun i hi => by omega

/-! ### RESULT and LAST after a match and after a rejection (R27, R35) -/

@[simp] theorem acceptBit_resultAccept (s : State) (k : Nat) :
    acceptBit (s.setResult (resultAccept k)).finish = true := resultWord_accept true _

@[simp] theorem acceptBit_resultReject (s : State) : acceptBit (s.setResult resultReject).finish = false :=
  resultWord_accept false _

@[simp] theorem offsetField_resultAccept (s : State) (k : Nat) :
    offsetField (s.setResult (resultAccept k)).finish = BitVec.ofNat 8 k := resultWord_offset true _

/-- Replacing CTR[3:0] by what it holds changes nothing. -/
@[simp] theorem setLast_last (s : State) : setLast s.ctr (last s) = s.ctr := by
  rw [setLast_eq, last_eq, BitVec.extractLsb'_append_extractLsb'_eq_extractLsb' (by rfl)]
  exact BitVec.extractLsb'_eq_self

/-! ### AES_COMPARE (R155 to R157) -/

theorem execAesCompare_of_match {s : State} {k : Nat} (hc : s.configured = true) (hv : s.aVariant = .aes)
    (h : aesMatch s.aKey s.ctr s.aTol (operandWide s) = some k) :
    execAesCompare s = .next (if s.ctr.toNat + k + 1 = 2 ^ 128 then s.raise .counterOverflow
      else ((s.setCtr (BitVec.ofNat 128 (s.ctr.toNat + k + 1))).setResult (resultAccept k)).finish) := by
  rw [execAesCompare_of_pair hc hv, h]
  exact (apply_ite Host.Outcome.next _ _ _).symm

theorem execAesCompare_of_noMatch {s : State} (hc : s.configured = true) (hv : s.aVariant = .aes)
    (h : aesMatch s.aKey s.ctr s.aTol (operandWide s) = none) :
    execAesCompare s = .next (s.setResult resultReject).finish := by
  rw [execAesCompare_of_pair hc hv, h]

/-- Settles O35: the premises of the first two clauses say what the window search finds. -/
theorem aesCompareCommand : Obligations.AesCompareCommand := by
  refine ⟨decode_encode .aesCompare, fun s => ⟨?accepts, ?rejects, withPair_of_unconfigured,
    fun hc hv => withPair_of_wrongVariant hc (by rw [hv]; decide)⟩⟩
  case accepts =>
    intro k hc hv hk hlt hcode hleast
    exact execAesCompare_of_match hc hv (aesMatch_eq_some.2 ⟨⟨hlt, hcode⟩, hk, hleast⟩)
  case rejects =>
    intro hc hv hnone
    exact execAesCompare_of_noMatch hc hv (aesMatch_eq_none.2 hnone)

/-! ### KLQ_RECEIVE (R165, R166) -/

theorem execKlqReceive_of_match {s : State} {b : KlqBlock} {i : Nat} (hc : s.configured = true)
    (hv : s.aVariant = .keeloq) (hb : receivedBlock s = b) (h : klqMatch (last s) s.aTol (klqCounterOf b) = some i) :
    execKlqReceive s = .next (((s.setDout (quadLow ((klqPayloadOf b).setWidth 32))).setCtr
      (setLast s.ctr (klqCounterOf b))).setResult (resultAccept i)).finish := by
  rw [execKlqReceive_of_pair hc hv, hb, h]

theorem execKlqReceive_of_noMatch {s : State} {b : KlqBlock} (hc : s.configured = true)
    (hv : s.aVariant = .keeloq) (hb : receivedBlock s = b) (h : klqMatch (last s) s.aTol (klqCounterOf b) = none) :
    execKlqReceive s = .next ((s.setDout (quadLow 0#32)).setResult resultReject).finish := by
  rw [execKlqReceive_of_pair hc hv, hb, h]

/-- Settles O38: the premises of the first two clauses say what the window search finds. -/
theorem klqReceiveCommand : Obligations.KlqReceiveCommand := by
  refine ⟨decode_encode .klqReceive, fun s b hb => ⟨?accepts, ?rejects, withPair_of_unconfigured,
    fun hc hv => withPair_of_wrongVariant hc (by rw [hv]; decide)⟩⟩
  case accepts =>
    intro i hc hv hi hmatch hleast
    exact execKlqReceive_of_match hc hv hb.symm (klqMatch_eq_some.2 ⟨hmatch, hi, hleast⟩)
  case rejects =>
    intro hc hv hnone
    exact execKlqReceive_of_noMatch hc hv hb.symm (klqMatch_eq_none.2 hnone)

/-- Settles O39: the search finds the distance from LAST exactly if the tolerance reaches it. -/
theorem klqAcceptanceLaw : Obligations.KlqAcceptanceLaw := by
  intro s ec hc hv hec
  obtain ⟨b, hb⟩ : ∃ b, receivedBlock s = b := ⟨_, rfl⟩
  obtain rfl : ec = klqCounterOf b := hec.trans (congrArg klqCounterOf hb)
  have hlt : (klqCounterOf b - last s).toNat < 16 := klqCounter_lt _
  have hzero : klqCounterOf b = last s → (klqCounterOf b - last s).toNat = 0 := fun h => by
    rw [h, BitVec.sub_self]
    rfl
  have hsearch := klqMatch_eq_distance (last s) (klqCounterOf b) s.aTol
  generalize (klqCounterOf b - last s).toNat = d at hlt hzero hsearch ⊢
  by_cases hd : d ≤ s.aTol.toNat
  · rw [if_pos hd] at hsearch
    refine ⟨_, execKlqReceive_of_match hc hv hb hsearch, rfl, iff_of_true (acceptBit_resultAccept _ d) hd,
      fun _ => ⟨?offset, setLast_low s.ctr _⟩, by simp, ?replay, fun _ => acceptBit_resultAccept _ d⟩
    case offset =>
      rw [offsetField_resultAccept, BitVec.toNat_ofNat, Nat.mod_eq_of_lt (by omega)]
    case replay =>
      intro h
      simp [hzero h, h]
  · rw [if_neg hd] at hsearch
    refine ⟨_, execKlqReceive_of_noMatch hc hv hb hsearch, rfl, by simpa using hd, by simp, fun _ => rfl, ?replay,
      ?tolerance⟩
    case replay =>
      intro h
      have hd0 := hzero h
      omega
    case tolerance =>
      intro htol
      omega

/-! ### Rejection (R168) -/

/-- A command keeps all that the receiver's window is made of, but for a CONFIGURE or an accepting match, which raise no
error. -/
theorem exec_keeps_receiver {i : Instr} {s t : State} (h : exec i s = .next t) :
    (t.ctr = s.ctr ∧ t.aKey = s.aKey ∧ t.aTol = s.aTol) ∨
    (t.err = s.err ∧ (i = .configure ∨ acceptBit t = true)) := by
  rcases exec_next h with ⟨e, rfl, -⟩ | ⟨-, rfl⟩ | ⟨hi, rfl⟩ | ⟨-, rfl⟩ | ⟨-, q, rfl⟩ | ⟨-, -, k, -, -, rfl⟩ |
    ⟨-, rfl⟩ | ⟨-, -, q, c, k, rfl⟩ | ⟨-, q, rfl⟩
  · exact .inl ⟨rfl, rfl, rfl⟩
  · exact .inl ⟨rfl, rfl, rfl⟩
  · exact .inr ⟨rfl, .inl hi⟩
  · exact .inl ⟨rfl, rfl, rfl⟩
  · exact .inl ⟨rfl, rfl, rfl⟩
  · exact .inr ⟨rfl, .inr (acceptBit_resultAccept _ k)⟩
  · exact .inl ⟨rfl, rfl, rfl⟩
  · exact .inr ⟨rfl, .inr (acceptBit_resultAccept _ k)⟩
  · exact .inl ⟨rfl, rfl, rfl⟩

/-- Settles O19: what may write the receiver is neither a rejection nor an error. -/
theorem rejectionLeavesTheReceiver : Obligations.RejectionLeavesTheReceiver := by
  intro i s t hs h hrej
  rcases exec_keeps_receiver h with ⟨hctr, hkey, htol⟩ | ⟨herr, hwrites⟩
  · exact ⟨hctr, congrArg (BitVec.extractLsb' 0 4) hctr, htol, fun k => by rw [hctr, hkey]⟩
  · exfalso
    rcases hrej with ⟨hi, hreject⟩ | ht
    · rcases hwrites with rfl | haccept
      · simp at hi
      · simp [haccept] at hreject
    · simp [herr, hs] at ht

end Sys2Proof.Machine
end

section
/-! Control (43_control.md): the issue of a command word, NOP, and CONFIGURE with the pair it leaves. -/

namespace Sys2Proof.Machine

/-! ### The issue (R180) -/

theorem State.pending_of_idle {s : State} (h : s.busy = false) : s.pending = none := by
  simpa [State.busy] using h

/-- While BUSY = 0 the step of a Host write of a register is the register's own rule (R55). -/
theorem step_write_regOffset {s : State} {r : WindowReg} {v : Word} {rest : List HostOp} (hb : s.busy = false)
    (hhost : s.host = .write (regOffset r) .bits32 v :: rest) : step s = .next (writeReg r v (s.setHost rest)) := by
  have hp := State.pending_of_idle hb
  rw [step_of_host_moves (by simp [hp]) hhost, State.tick_of_idle hp]
  exact hostOp_write_regOffset (s := s.setHost rest) hb r v

/-- Settles O5: an idle block takes the write by the rule of CMD, a busy one ignores it. -/
theorem cmdWriteIssues : Obligations.CmdWriteIssues := by
  refine ⟨fun s w rest hb hhost => ?idle, fun s w hb => ?busy⟩
  case idle =>
    exact ⟨_, Config.latency s.draws, step_write_regOffset (r := .cmd) hb hhost, rfl⟩
  case busy =>
    rw [hostOp_write (by decide), busWrite_of_busy hb]
    rfl

/-! ### NOP (R186) -/

/-- Settles O11: NOP's rule is the end of BUSY. -/
theorem nopOnlyEndsBusy : Obligations.NopOnlyEndsBusy :=
  ⟨decode_encode .nop, fun _ => rfl⟩

/-! ### CONFIGURE (R182) -/

theorem requiredKeyBytes_ctrlVariant (s : State) :
    requiredKeyBytes (ctrlVariant s) = if s.ctrl.getLsbD 0 then 8#5 else 16#5 :=
  apply_ite requiredKeyBytes _ _ _

theorem execConfigure_of_keyLength {s : State}
    (h : s.ctrl.extractLsb' 8 5 = if s.ctrl.getLsbD 0 then 8#5 else 16#5) :
    execConfigure s = .next s.latchPair.finish :=
  if_pos (h.trans (requiredKeyBytes_ctrlVariant s).symm)

theorem execConfigure_of_wrongKeyLength {s : State}
    (h : s.ctrl.extractLsb' 8 5 ≠ if s.ctrl.getLsbD 0 then 8#5 else 16#5) :
    execConfigure s = .next (s.dropPair.raise .invalidKeyLength) :=
  if_neg fun hk => h (hk.trans (requiredKeyBytes_ctrlVariant s))

/-- Settles O12: the two branches of CONFIGURE, each with its state written out. -/
theorem configureLatchesThePair : Obligations.ConfigureLatchesThePair :=
  ⟨decode_encode .configure, fun _ => ⟨execConfigure_of_keyLength, execConfigure_of_wrongKeyLength⟩⟩

/-! ### A block with no pair (R26, R183, R201) -/

/-- STATUS.CONFIGURED is bit 1 (R26). -/
theorem statusWord_configured (s : State) : (statusWord s).getLsbD 1 = s.configured := by
  simp only [statusWord, BitVec.getLsbD_append, BitVec.getLsbD_ofBool]
  rfl

/-- STATUS.ACTIVE_VARIANT is bit 8 (R26). -/
theorem statusWord_activeVariant (s : State) : (statusWord s).getLsbD 8 = (activeVariant s).getLsbD 0 := by
  simp only [statusWord, BitVec.getLsbD_append]
  rfl

/-- STATUS.ACTIVE_TOL is bits 23:16 (R26). -/
theorem statusWord_activeTol (s : State) : (statusWord s).extractLsb' 16 8 = activeTol s := by
  apply BitVec.eq_of_getLsbD_eq
  intro i hi
  rw [BitVec.getLsbD_extractLsb', decide_eq_true hi, Bool.true_and]
  simp only [statusWord, BitVec.getLsbD_append]
  repeat rw [if_neg (by omega)]
  rw [if_pos (by omega)]
  congr 1
  omega

theorem activeVariant_of_unconfigured {s : State} (hc : s.configured = false) : activeVariant s = 0#1 := by
  simp [activeVariant, hc]

theorem activeTol_of_unconfigured {s : State} (hc : s.configured = false) : activeTol s = 0#8 := by
  simp [activeTol, hc]

/-- Without a pair every command that needs one raises NOT_CONFIGURED (R201). -/
theorem exec_of_unconfigured {i : Instr} {s : State} (hi : needsPair i = true) (hc : s.configured = false) :
    exec i s = .next (s.raise .notConfigured) := by
  cases i with
  | nop => cases hi
  | configure => cases hi
  | generate => exact withPair_of_unconfigured hc
  | aesCompare => exact withPair_of_unconfigured hc
  | klqReceive => exact withPair_of_unconfigured hc
  | klqEncrypt => exact withPair_of_unconfigured hc
  | klqDecrypt => exact withPair_of_unconfigured hc

theorem needsPair_of_mem : ∀ i ∈ [Instr.generate, .aesCompare, .klqReceive, .klqEncrypt, .klqDecrypt],
    needsPair i = true := by
  decide

/-- Settles O13: the failing branch of CONFIGURE clears CONFIGURED, which hides the old configuration in STATUS and stops
the commands that need a pair. -/
theorem failedConfigureLeavesNoPair : Obligations.FailedConfigureLeavesNoPair := by
  intro s hlen
  refine ⟨_, execConfigure_of_wrongKeyLength hlen, rfl, rfl, rfl, statusWord_configured _, ?activeVariant, ?activeTol,
    rfl, rfl, rfl, rfl, rfl, rfl, rfl, fun i hi u hu => exec_of_unconfigured (needsPair_of_mem i hi) hu⟩
  case activeVariant =>
    rw [statusWord_activeVariant, activeVariant_of_unconfigured rfl]
    rfl
  case activeTol =>
    rw [statusWord_activeTol, activeTol_of_unconfigured rfl]

end Sys2Proof.Machine
end

section
/-! Exceptions (60_exceptions.md): the errors a command can end with, the order of the checks, and what an error
completion leaves unchanged. -/

namespace Sys2Proof.Machine

/-! ### The errors of a command (R200 to R203) -/

/-- A command ends with the first error of the pair checks, with its own error, or with ERR and ERRCODE as they were. -/
theorem exec_error_cases {i : Instr} {s t : State} (h : exec i s = .next t) :
    (needsPair i = true ∧ ∃ e, pairError (neededVariant i) s = some e ∧ t = s.raise e) ∨
    (i = .aesCompare ∧ t = s.raise .counterOverflow) ∨
    (i = .configure ∧ t = s.dropPair.raise .invalidKeyLength) ∨
    (t.err = s.err ∧ t.errCode = s.errCode) := by
  cases i with
  | nop =>
    obtain rfl := execNop_next h
    exact .inr (.inr (.inr ⟨rfl, rfl⟩))
  | configure =>
    rcases execConfigure_next h with ⟨-, rfl⟩ | ⟨-, ht⟩
    · exact .inr (.inr (.inr ⟨rfl, rfl⟩))
    · exact .inr (.inr (.inl ⟨rfl, ht⟩))
  | generate =>
    rcases execGenerate_next h with hpair | ⟨-, rfl⟩
    · exact .inl ⟨rfl, hpair⟩
    · exact .inr (.inr (.inr ⟨rfl, rfl⟩))
  | aesCompare =>
    rcases execAesCompare_next h with hpair | ⟨-, ⟨k, -, -, ht⟩ | ⟨k, -, -, rfl⟩ | ⟨-, rfl⟩⟩
    · exact .inl ⟨rfl, hpair⟩
    · exact .inr (.inl ⟨rfl, ht⟩)
    · exact .inr (.inr (.inr ⟨rfl, rfl⟩))
    · exact .inr (.inr (.inr ⟨rfl, rfl⟩))
  | klqReceive =>
    rcases execKlqReceive_next h with hpair | ⟨-, ⟨k, -, rfl⟩ | ⟨-, rfl⟩⟩
    · exact .inl ⟨rfl, hpair⟩
    · exact .inr (.inr (.inr ⟨rfl, rfl⟩))
    · exact .inr (.inr (.inr ⟨rfl, rfl⟩))
  | klqEncrypt =>
    rcases execKlqEncrypt_next h with hpair | ⟨-, q, rfl⟩
    · exact .inl ⟨rfl, hpair⟩
    · exact .inr (.inr (.inr ⟨rfl, rfl⟩))
  | klqDecrypt =>
    rcases execKlqDecrypt_next h with hpair | ⟨-, q, rfl⟩
    · exact .inl ⟨rfl, hpair⟩
    · exact .inr (.inr (.inr ⟨rfl, rfl⟩))

/-- A command that passes the pair checks, or needs none, is left with its own error alone. -/
theorem exec_errCode_of_checks {i : Instr} {s t : State} (hc : needsPair i = true → s.configured = true)
    (hv : ∀ v, neededVariant i = some v → s.aVariant = v) (h : exec i s = .next t) :
    t.errCode = s.errCode ∨ (i = .configure ∧ t.errCode = .invalidKeyLength) ∨
      (i = .aesCompare ∧ t.errCode = .counterOverflow) := by
  rcases exec_error_cases h with ⟨hneed, e, he, -⟩ | ⟨hi, rfl⟩ | ⟨hi, rfl⟩ | ⟨-, hcode⟩
  · cases (pairError_eq_none.2 ⟨hc hneed, hv⟩).symm.trans he
  · exact .inr (.inr ⟨hi, rfl⟩)
  · exact .inr (.inl ⟨hi, rfl⟩)
  · exact .inl hcode

theorem neededVariant_of_not_needsPair {i : Instr} (h : needsPair i = false) : neededVariant i = none := by
  revert h
  cases i <;> decide

/-- A command of the other variant than the pair's raises WRONG_VARIANT (R202). -/
theorem exec_of_wrongVariant {i : Instr} {v : Variant} {s : State} (hi : neededVariant i = some v)
    (hc : s.configured = true) (hv : s.aVariant ≠ v) : exec i s = .next (s.raise .wrongVariant) := by
  cases i with
  | nop => cases hi
  | configure => cases hi
  | generate => cases hi
  | aesCompare => cases hi; exact withPair_of_wrongVariant hc hv
  | klqReceive => cases hi; exact withPair_of_wrongVariant hc hv
  | klqEncrypt => cases hi; exact withPair_of_wrongVariant hc hv
  | klqDecrypt => cases hi; exact withPair_of_wrongVariant hc hv

theorem neededVariant_keeloq_of_mem :
    ∀ i ∈ [Instr.klqReceive, .klqEncrypt, .klqDecrypt], neededVariant i = some .keeloq := by
  decide

/-- The words that need no pair: NOP, CONFIGURE and the illegal words (R201). -/
theorem not_needsPair_of_decode {w : Word} {i : Instr}
    (hw : w = 0x00000000#32 ∨ w = 0x00000001#32 ∨ wordWellFormed w = false) (hi : decode w = .ok i) :
    needsPair i = false := by
  rcases hw with rfl | rfl | hbad
  · cases hi.symm.trans (decode_encode .nop)
    rfl
  · cases hi.symm.trans (decode_encode .configure)
    rfl
  · have hgood := wordWellFormed_iff_exists_encode.2 ⟨i, decode_eq_ok_iff.1 hi⟩
    cases hbad.symm.trans hgood

/-- Settles O15: the pair checks raise it, and a word that needs no pair is left with its own error. -/
theorem notConfiguredIsRaised : Obligations.NotConfiguredIsRaised := by
  refine ⟨fun i s hi hc => exec_of_unconfigured (needsPair_of_mem i hi) hc, fun w s t hw hcode h => ?_⟩
  rcases completeWord_next h with ⟨i, hi, hexec⟩ | ⟨e, -, rfl⟩
  · have hneed := not_needsPair_of_decode hw hi
    have herr := exec_errCode_of_checks (by simp [hneed]) (by simp [neededVariant_of_not_needsPair hneed]) hexec
    rcases herr with herr | ⟨-, herr⟩ | ⟨-, herr⟩
    · simp [herr, hcode]
    · simp [herr]
    · simp [herr]
  · simp

/-- Settles O16: the pair checks raise it, and GENERATE's check is of no variant. -/
theorem wrongVariantIsRaised : Obligations.WrongVariantIsRaised := by
  refine ⟨fun s hc hv => exec_of_wrongVariant rfl hc (by simp [hv]), ?keeloq, ?generate⟩
  case keeloq =>
    exact fun i s hi hc hv => exec_of_wrongVariant (neededVariant_keeloq_of_mem i hi) hc (by simp [hv])
  case generate =>
    intro s t hcode h
    rcases execGenerate_next h with ⟨e, he, rfl⟩ | ⟨-, rfl⟩
    · rcases pairError_eq_some he with ⟨-, rfl⟩ | ⟨-, -, v, hnone, -⟩
      · simp
      · cases hnone
    · simp [hcode]

/-- Settles O17: each error of a command is `State.raise`, for CONFIGURE after the pair is dropped. -/
theorem errorsArePrecise : Obligations.ErrorsArePrecise := by
  intro w s t hs h ht
  rcases completeWord_next h with ⟨i, hi, hexec⟩ | ⟨e, -, rfl⟩
  · rcases exec_error_cases hexec with ⟨-, e, he, rfl⟩ | ⟨-, rfl⟩ | ⟨rfl, rfl⟩ | ⟨herr, -⟩
    · refine .inl ⟨rfl, ?_⟩
      rcases pairError_eq_some he with ⟨-, rfl⟩ | ⟨-, rfl, -⟩
      · simp
      · simp
    · exact .inl ⟨rfl, by simp, by simp⟩
    · exact .inr ⟨hi, rfl⟩
    · simp [herr, hs] at ht
  · exact .inl ⟨rfl, by simp, by simp⟩

/-! ### The order of the checks (R204) -/

theorem completeWord_of_decode {w : Word} {i : Instr} (hi : decode w = .ok i) (s : State) :
    completeWord w s = exec i s := by
  rw [completeWord, hi]

/-- CONFIGURE's own error is that of KEYLEN (R182). -/
theorem execConfigure_errCode {s t : State} (hcode : s.errCode = .noError) (h : exec .configure s = .next t) :
    t.errCode = if s.ctrl.extractLsb' 8 5 = (if s.ctrl.getLsbD 0 then 8#5 else 16#5) then .noError
      else .invalidKeyLength := by
  by_cases hlen : s.ctrl.extractLsb' 8 5 = if s.ctrl.getLsbD 0 then 8#5 else 16#5
  · cases (execConfigure_of_keyLength hlen).symm.trans h
    rw [if_pos hlen]
    exact hcode
  · cases (execConfigure_of_wrongKeyLength hlen).symm.trans h
    rw [if_neg hlen]
    rfl

/-- AES_COMPARE with its first match at counter 2^128 - 1 raises COUNTER_OVERFLOW (R157). -/
theorem execAesCompare_of_lastCounter {s : State} {k : Nat} (hc : s.configured = true) (hv : s.aVariant = .aes)
    (hk : k ≤ s.aTol.toNat) (hlast : s.ctr.toNat + k = 2 ^ 128 - 1)
    (hfirst : ∀ j ≤ k, aes128 s.aKey (BitVec.ofNat 128 (s.ctr.toNat + j)) = quadWide s.din ↔ j = k) :
    execAesCompare s = .next (s.raise .counterOverflow) := by
  have hmatch : aesMatch s.aKey s.ctr s.aTol (operandWide s) = some k :=
    aesMatch_eq_some.2 ⟨⟨by omega, (hfirst k le_rfl).2 rfl⟩, hk, fun j hj hcode =>
      hj.ne ((hfirst j hj.le).1 hcode)⟩
  rw [execAesCompare_of_match hc hv hmatch, if_pos (by omega)]

/-- A write while BUSY = 1 sets OVERRUN and no ERRCODE (R248). -/
theorem hostOp_write_keeps_errCode_of_busy {o : Offset} {v : Word} {s t : State} (hb : s.busy = true)
    (h : hostOp (.write o .bits32 v) s = .next t) : t.errCode = s.errCode := by
  by_cases halign : o.toNat % 4 = 0
  · rw [hostOp_write halign, busWrite_of_busy hb] at h
    cases h
    rfl
  · have hfault := (hostOp_malformed (width := .bits32) (fun hwf => halign hwf.2) v s).2
    cases hfault.symm.trans h

/-- Settles O18: each check in its order leaves the later ones to a command that passes it. -/
theorem errorPriority : Obligations.ErrorPriority := by
  refine ⟨fun w s t _ hcode h => ⟨?illegal, ?notConfigured, ?wrongVariant, ?own⟩,
    fun o v s t => hostOp_write_keeps_errCode_of_busy, fun o width v s hbad => hostOp_malformed hbad v s⟩
  case illegal =>
    intro hill
    rw [completeWord_of_illegal fun i hw => hill i (decode_eq_ok_iff.2 hw)] at h
    cases h
    rfl
  case notConfigured =>
    intro i hi hneed hc
    rw [completeWord_of_decode hi, exec_of_unconfigured hneed hc] at h
    cases h
    rfl
  case wrongVariant =>
    intro i v hi hc hneed hv
    rw [completeWord_of_decode hi, exec_of_wrongVariant hneed hc hv] at h
    cases h
    rfl
  case own =>
    intro i hi hc hv
    rw [completeWord_of_decode hi] at h
    have hown := exec_errCode_of_checks hc hv h
    rw [hcode] at hown
    refine ⟨?configure, ?aesCompare, ?others⟩
    case configure =>
      rintro rfl
      exact execConfigure_errCode hcode h
    case aesCompare =>
      rintro rfl
      constructor
      · rintro ⟨k, hk, hlast, hfirst⟩
        cases (execAesCompare_of_lastCounter (hc rfl) (hv .aes rfl) hk hlast hfirst).symm.trans h
        rfl
      · simpa using hown
    case others =>
      intro hne hne'
      simpa [hne, hne'] using hown

end Sys2Proof.Machine
end

section
/-! Reset and OVERRUN (70_reset_and_hazards.md): the Host's reset abandons what is in progress, and what clears
OVERRUN. -/

namespace Sys2Proof.Machine

/-- Settles O55: where the Host moves, the step of a reset is the reset of the block. -/
theorem resetFromEveryState : Obligations.ResetFromEveryState :=
  fun _ _ hhost hwait => ⟨_, step_of_host_moves hwait hhost, rfl⟩

/-! ### What clears OVERRUN (R248) -/

/-- The Engine has no part in OVERRUN. -/
theorem completeWord_keeps_overrun {w : Word} {s t : State} (h : completeWord w s = .next t) :
    t.overrun = s.overrun := by
  rcases completeWord_next h with ⟨i, -, hi⟩ | ⟨e, -, rfl⟩
  · rcases exec_next hi with ⟨e, rfl, -⟩ | ⟨-, rfl⟩ | ⟨-, rfl⟩ | ⟨-, rfl⟩ | ⟨-, q, rfl⟩ | ⟨-, -, k, -, -, rfl⟩ |
      ⟨-, rfl⟩ | ⟨-, -, q, c, k, rfl⟩ | ⟨-, q, rfl⟩ <;> rfl
  · rfl

theorem busRead_keeps_overrun (o : Offset) (s : State) : (busRead o s).overrun = s.overrun := by
  rcases busRead_eq o s with ⟨hr, -⟩ | ⟨hr, -⟩ <;> simp [hr]

/-- The one register whose write clears OVERRUN is STATUS, by its bit 3 (R26). -/
theorem writeReg_clears_overrun {r : WindowReg} {v : Word} {s : State} (hs : s.overrun = true)
    (ht : (writeReg r v s).overrun = false) : r = .status ∧ v.getLsbD 3 = true := by
  cases r with
  | status =>
    refine ⟨rfl, ?_⟩
    by_contra hv
    rw [writeReg, if_neg hv, hs] at ht
    cases ht
  | ctrl | cmd | result | key i | payload | din i | dout i | ctr i => cases hs.symm.trans ht

/-- A Host write that clears OVERRUN finds BUSY = 0 and is of STATUS with bit 3 set. -/
theorem busWrite_clears_overrun {o : Offset} {v : Word} {s : State} (hs : s.overrun = true)
    (ht : (busWrite o v s).overrun = false) : s.busy = false ∧ o = 0x08#8 ∧ v.getLsbD 3 = true := by
  rcases busWrite_cases o v s with ⟨-, hw⟩ | ⟨-, -, hw⟩ | ⟨hb, r, hr, hw⟩
  · rw [hw] at ht
    cases ht
  · rw [hw, hs] at ht
    cases ht
  · rw [hw] at ht
    obtain ⟨rfl, hv⟩ := writeReg_clears_overrun hs ht
    exact ⟨hb, (regOffset_of_windowReg o _ hr).symm, hv⟩

/-- A Host step that clears OVERRUN is a reset, or a write of STATUS with bit 3 set while BUSY = 0. -/
theorem hostStep_clears_overrun {s t : State} (h : hostStep s = .next t) (hs : s.overrun = true)
    (ht : t.overrun = false) :
    (∃ rest, s.host = .reset :: rest ∧ t = (s.setHost rest).resetBlock) ∨
    (s.busy = false ∧ ∃ v rest, s.host = .write 0x08#8 .bits32 v :: rest ∧ v.getLsbD 3 = true) := by
  rcases hostStep_next h with ⟨-, rfl⟩ | ⟨o, rest, -, -, rfl⟩ | ⟨o, v, rest, hhost, -, rfl⟩ |
    ⟨rest, -, ⟨-, rfl⟩ | ⟨-, rfl⟩⟩ | hreset
  · cases hs.symm.trans ht
  · rw [busRead_keeps_overrun] at ht
    cases hs.symm.trans ht
  · obtain ⟨hb, rfl, hv⟩ := busWrite_clears_overrun (s := s.setHost rest) hs ht
    exact .inr ⟨hb, v, rest, hhost, hv⟩
  · cases hs.symm.trans ht
  · cases hs.symm.trans ht
  · exact .inl hreset

/-- The Host's write while BUSY = 1: OVERRUN for a well-formed one, the bus error for a malformed one. -/
theorem hostOp_write_of_busy {s : State} (hb : s.busy = true) (o : Offset) (width : AccessWidth) (v : Word) :
    hostOp (.write o width v) s =
      if width = .bits32 ∧ o.toNat % 4 = 0 then .next (s.setOverrun true) else .fault (.busError o width) := by
  split
  · next hwf =>
    obtain ⟨rfl, halign⟩ := hwf
    rw [hostOp_write halign, busWrite_of_busy hb]
  · next hbad => exact (hostOp_malformed hbad v s).2

/-- Settles O50: the step that clears OVERRUN is no completion, so it is a Host step; with a command in progress that
is a reset, for the write would find BUSY = 1. -/
theorem writesWhileBusyOnlyOverrun : Obligations.WritesWhileBusyOnlyOverrun := by
  refine ⟨fun s o width v hb => hostOp_write_of_busy hb o width v, fun s t h hs ht => ?_⟩
  rcases step_next h with ⟨p, -, -, hc⟩ | ⟨p, hp, hwait, -, hh⟩ | ⟨hp, hh⟩
  · cases hs.symm.trans ((completeWord_keeps_overrun hc).symm.trans ht)
  · rcases hostStep_clears_overrun hh hs ht with ⟨rest, hhost, rfl⟩ | ⟨hb, -⟩
    · exact .inl ⟨rest, hhost, by simpa [hp] using hwait, rfl⟩
    · simp [State.busy, hp] at hb
  · rcases hostStep_clears_overrun hh hs ht with ⟨rest, hhost, rfl⟩ | hwrite
    · exact .inl ⟨rest, hhost, by simp [hp], rfl⟩
    · exact .inr hwrite

end Sys2Proof.Machine
end

section
/-! The invariants (10_state.md section 5): the reset state meets them, every update of the state keeps them, and so
does every step. -/

namespace Sys2Proof.Machine

/-! ### The reserved bits (R24, R26, R29) -/

/-- Field by field, from bit 31 down, the mask or STATUS is 0. -/
theorem statusWord_reserved (s : State) : statusWord s &&& 0xFF00FE00#32 = 0#32 := by
  have hmask : 0xFF00FE00#32 =
      0xFF#8 ++ 0#8 ++ 0x7F#7 ++ 0#1 ++ 0#4 ++ 0#1 ++ 0#1 ++ 0#1 ++ 0#1 := by decide
  rw [hmask, statusWord]
  iterate 8 rw [BitVec.and_append]
  simp

theorem and_ctrlMask_reserved (w : Word) : w &&& Config.ctrlMask &&& 0xFF00E0FE#32 = 0#32 := by
  have hdisjoint : Config.ctrlMask &&& 0xFF00E0FE#32 = 0#32 := by decide
  rw [BitVec.and_assoc, hdisjoint, BitVec.and_zero]

theorem and_klqPayloadMask_reserved (w : Word) : w &&& Config.klqPayloadMask &&& 0xF0000000#32 = 0#32 := by
  have hdisjoint : Config.klqPayloadMask &&& 0xF0000000#32 = 0#32 := by decide
  rw [BitVec.and_assoc, hdisjoint, BitVec.and_zero]

/-! ### Every update keeps the invariants, given what it writes -/

/-- Settles O56: nothing is set in the reset state but TOLERANCE. -/
theorem resetMeetsTheInvariants : Obligations.ResetMeetsTheInvariants where
  ctrlReserved := by decide
  payloadReserved := by decide
  statusReserved := statusWord_reserved _
  resultReserved := by decide
  noErrorNoCode _ := rfl
  errorHasCode h := nomatch h
  busyNoError _ := rfl
  klqCounterHigh h := nomatch h
  rejectedOffset _ := by decide

namespace Inv

variable {s : State}

theorem resetBlock (s : State) : Inv s.resetBlock :=
  { resetMeetsTheInvariants with statusReserved := statusWord_reserved _ }

theorem finish (h : Inv s) : Inv s.finish :=
  { h with statusReserved := statusWord_reserved _, busyNoError := nofun }

theorem raise (h : Inv s) {e : ErrorCode} (he : e ≠ .noError) : Inv (s.raise e) :=
  { h with
    statusReserved := statusWord_reserved _
    noErrorNoCode := nofun
    errorHasCode := fun _ => he
    busyNoError := nofun }

theorem issue (h : Inv s) (w : Word) (n : Nat) : Inv (s.issue w n) :=
  { h with
    statusReserved := statusWord_reserved _
    noErrorNoCode := fun _ => rfl
    errorHasCode := nofun
    busyNoError := fun _ => rfl }

theorem setDout (h : Inv s) (q : Quad) : Inv (s.setDout q) :=
  { h with statusReserved := statusWord_reserved _ }

/-- RESULT of a match or of a rejection: OFFSET is 0 unless ACCEPT is 1 (R27). -/
theorem setResult (h : Inv s) {a : Bool} {k : Tolerance} (hk : a = false → k = 0#8) :
    Inv (s.setResult (resultWord a k)) :=
  { h with
    statusReserved := statusWord_reserved _
    resultReserved := resultWord_reserved a k
    rejectedOffset := fun ha =>
      (resultWord_offset a k).trans (hk ((resultWord_accept a k).symm.trans ha)) }

theorem setCtr (h : Inv s) {c : Counter} (hc : s.aVariant = .keeloq → c.extractLsb' 4 124 = s.ctr.extractLsb' 4 124) :
    Inv (s.setCtr c) :=
  { h with
    statusReserved := statusWord_reserved _
    klqCounterHigh := fun hconf hv => (hc hv).trans (h.klqCounterHigh hconf hv) }

theorem dropPair (h : Inv s) : Inv s.dropPair :=
  { h with statusReserved := statusWord_reserved _, klqCounterHigh := nofun }

theorem latchPair (h : Inv s) : Inv s.latchPair :=
  { h with
    statusReserved := statusWord_reserved _
    resultReserved := BitVec.zero_and
    klqCounterHigh := fun _ _ => BitVec.extractLsb'_zero
    rejectedOffset := fun _ => BitVec.extractLsb'_zero }

theorem setOverrun (h : Inv s) (b : Bool) : Inv (s.setOverrun b) :=
  { h with statusReserved := statusWord_reserved _ }

theorem storeCtrl (h : Inv s) (w : Word) : Inv (s.storeCtrl w) :=
  { h with ctrlReserved := and_ctrlMask_reserved w }

theorem storeKey (h : Inv s) (i : Fin 4) (w : Word) : Inv (s.storeKey i w) := { h with }

theorem storePayload (h : Inv s) (w : Word) : Inv (s.storePayload w) :=
  { h with payloadReserved := and_klqPayloadMask_reserved w }

theorem storeDin (h : Inv s) (i : Fin 4) (w : Word) : Inv (s.storeDin i w) := { h with }

theorem setHost (h : Inv s) (l : List HostOp) : Inv (s.setHost l) := { h with }

theorem logRead (h : Inv s) (v : Word) : Inv (s.logRead v) := { h with }

theorem draw (h : Inv s) : Inv s.draw := { h with }

theorem tick (h : Inv s) : Inv s.tick :=
  { h with
    statusReserved := statusWord_reserved _
    busyNoError := fun hb => h.busyNoError (s.tick_busy.symm.trans hb) }

/-! ### The Engine and the Host -/

theorem exec (h : Inv s) {i : Instr} {t : State} (hexec : exec i s = .next t) : Inv t := by
  rcases exec_next hexec with ⟨e, rfl, he, -⟩ | ⟨-, rfl⟩ | ⟨-, rfl⟩ | ⟨-, rfl⟩ | ⟨-, q, rfl⟩ |
    ⟨-, haes, k, -, -, rfl⟩ | ⟨-, rfl⟩ | ⟨-, -, q, c, k, rfl⟩ | ⟨-, q, rfl⟩
  · exact h.raise he
  · exact h.dropPair.raise (by decide)
  · exact h.latchPair.finish
  · exact h.finish
  · exact (h.setDout q).finish
  · exact ((h.setCtr (by simp [haes])).setResult (a := true) nofun).finish
  · exact (h.setResult fun _ => rfl).finish
  · exact (((h.setDout q).setCtr fun _ => setLast_high s.ctr c).setResult (a := true) nofun).finish
  · exact ((h.setDout q).setResult fun _ => rfl).finish

theorem completeWord (h : Inv s) {w : Word} {t : State} (hw : completeWord w s = .next t) : Inv t := by
  rcases completeWord_next hw with ⟨i, -, hexec⟩ | ⟨e, -, rfl⟩
  · exact h.exec hexec
  · exact h.raise (by decide)

theorem busRead (h : Inv s) (o : Offset) : Inv (busRead o s) := by
  rcases busRead_eq o s with ⟨hr, -⟩ | ⟨hr, -⟩ <;> rw [hr]
  · exact h.logRead _
  · exact h.draw.logRead _

theorem writeReg (h : Inv s) (r : WindowReg) (v : Word) : Inv (writeReg r v s) := by
  cases r with
  | ctrl => exact h.storeCtrl v
  | cmd => exact h.draw.issue v _
  | status =>
    rw [Machine.writeReg]
    split
    · exact h.setOverrun false
    · exact h
  | key i => exact h.storeKey i v
  | payload => exact h.storePayload v
  | din i => exact h.storeDin i v
  | result | dout i | ctr i => exact h

theorem busWrite (h : Inv s) (o : Offset) (v : Word) : Inv (busWrite o v s) := by
  rcases busWrite_cases o v s with ⟨-, hw⟩ | ⟨-, -, hw⟩ | ⟨-, r, -, hw⟩ <;> rw [hw]
  · exact h.setOverrun true
  · exact h
  · exact h.writeReg r v

theorem hostStep (h : Inv s) {t : State} (hh : hostStep s = .next t) : Inv t := by
  rcases hostStep_next hh with ⟨-, rfl⟩ | ⟨o, rest, -, -, rfl⟩ | ⟨o, v, rest, -, -, rfl⟩ |
    ⟨rest, -, ⟨-, rfl⟩ | ⟨-, rfl⟩⟩ | ⟨rest, -, rfl⟩
  · exact h
  · exact (h.setHost rest).busRead o
  · exact (h.setHost rest).busWrite o v
  · exact h
  · exact h.setHost rest
  · exact resetBlock _

end Inv

/-- Settles O57: the step is a completion or a Host step, and each keeps the invariants. -/
theorem stepKeepsTheInvariants : Obligations.StepKeepsTheInvariants := by
  intro s t h hstep
  rcases step_next hstep with ⟨p, -, -, hc⟩ | ⟨p, -, -, -, hh⟩ | ⟨-, hh⟩
  · exact h.completeWord hc
  · exact h.tick.hostStep hh
  · exact h.hostStep hh

/-- Settles O58: by induction on the run, from reset. -/
theorem reachableStatesMeetTheInvariants : Obligations.ReachableStatesMeetTheInvariants := by
  intro s hs
  refine ⟨?_, Option.isSome_iff_exists⟩
  induction hs with
  | start program => exact resetMeetsTheInvariants.setHost program
  | step _ hstep ih => exact stepKeepsTheInvariants _ _ ih hstep

end Sys2Proof.Machine
end

section
/-! Steps and completion (43_control.md, 70_reset_and_hazards.md): who moves, what a completion leaves alone, what
begins and ends BUSY, and that every command and every Host program comes to its end. -/

namespace Sys2Proof.Machine

/-! ### Who moves (R5, R184) -/

theorem step_of_due {s : State} {p : Pending} (hp : s.pending = some p) (hdue : p.wait = 0 ∨ s.host = []) :
    step s = completeWord p.word s := by
  have hmoves : engineMoves p s = true := by simpa [engineMoves] using hdue
  simp [step, agentStep, hp, hmoves]

theorem step_of_waiting {s : State} {p : Pending} (hp : s.pending = some p) (hwait : p.wait ≠ 0) (hhost : s.host ≠ []) :
    step s = hostStep s.tick := by
  simp [step, agentStep, hp, engineMoves, hwait, hhost]

theorem step_of_idle {s : State} (hp : s.pending = none) : step s = hostStep s := by
  simp [step, agentStep, hp]

theorem State.tick_of_pending {s : State} {p : Pending} (hp : s.pending = some p) :
    s.tick = { s with pending := some ⟨p.word, p.wait - 1⟩ } := by
  rw [State.tick, hp]
  rfl

/-- Settles O4: the completion where it is due, the Host's next operation where it is not. -/
theorem stepRunsThePendingCommand : Obligations.StepRunsThePendingCommand := by
  refine ⟨fun s p i hp hdue hi => ?runs, fun s p e hp hdue he => ?illegal, fun s p op rest hp hwait hhost => ?waits,
    fun s op rest hp hhost => ?idle⟩
  case runs => rw [step_of_due hp hdue, completeWord_of_decode hi]
  case illegal =>
    rw [step_of_due hp hdue, completeWord, he]
    rfl
  case waits =>
    rw [step_of_host_moves (by simp [hp, hwait]) hhost, State.tick_of_pending hp]
    rfl
  case idle =>
    rw [step_of_host_moves (by simp [hp]) hhost, State.tick_of_idle hp]
    rfl

theorem hostOp_poll_of_idle {s : State} (hp : s.pending = none) : hostOp .poll s = .next s := by
  simp [hostOp, State.busy, hp]

theorem hostOp_poll_of_pending {s : State} {p : Pending} (hp : s.pending = some p) :
    hostOp .poll s = .next (s.setHost (.poll :: s.host)) := by
  simp [hostOp, State.busy, hp]

/-- Settles O53: a poll leaves an idle block alone, and puts itself back before a busy one. -/
theorem pollWaitsForBusy : Obligations.PollWaitsForBusy := by
  refine ⟨fun s rest hp hhost => ?retires, fun s p rest hp hwait hhost => ?stays⟩
  case retires =>
    rw [step_of_host_moves (by simp [hp]) hhost, State.tick_of_idle hp, hostOp_poll_of_idle (by simpa using hp)]
    rfl
  case stays =>
    rw [step_of_host_moves (by simp [hp, hwait]) hhost, State.tick_of_pending hp, hostOp_poll_of_pending rfl,
      State.setHost, State.setHost, ← hhost]

/-- Settles O59: in a final state neither agent has anything to do. -/
theorem finalStatesStay : Obligations.FinalStatesStay := by
  refine ⟨fun s ⟨hhost, hb⟩ => ?_, fun s hb ⟨_, hidle⟩ => by simp [hb] at hidle⟩
  rw [step_of_idle (State.pending_of_idle hb), hostStep, hhost]

/-! ### The completion (R184) -/

theorem completeWord_answers_next (w : Word) (s : State) : ∃ t, completeWord w s = .next t := by
  unfold completeWord
  split
  · next i _ => exact exec_answers_next i s
  · exact ⟨_, rfl⟩

theorem busy_eq_false_iff {s : State} : s.busy = false ↔ s.pending = none := by
  simp [State.busy]

/-- The frame of a command: staging and operand registers, OVERRUN and what is the Host's (R22, R76). -/
theorem exec_frame {i : Instr} {s t : State} (h : exec i s = .next t) :
    t.din = s.din ∧ t.key = s.key ∧ t.ctrl = s.ctrl ∧ t.payload = s.payload ∧ t.overrun = s.overrun ∧
      t.host = s.host ∧ t.reads = s.reads ∧ t.draws = s.draws := by
  rcases exec_next h with ⟨e, rfl, -⟩ | ⟨-, rfl⟩ | ⟨-, rfl⟩ | ⟨-, rfl⟩ | ⟨-, q, rfl⟩ | ⟨-, -, k, -, -, rfl⟩ |
    ⟨-, rfl⟩ | ⟨-, -, q, c, k, rfl⟩ | ⟨-, q, rfl⟩ <;> exact ⟨rfl, rfl, rfl, rfl, rfl, rfl, rfl, rfl⟩

theorem completeWord_keeps_host {w : Word} {s t : State} (h : completeWord w s = .next t) :
    t.host = s.host ∧ t.reads = s.reads := by
  rcases completeWord_next h with ⟨i, -, hi⟩ | ⟨e, -, rfl⟩
  · obtain ⟨-, -, -, -, -, hhost, hreads, -⟩ := exec_frame hi
    exact ⟨hhost, hreads⟩
  · exact ⟨rfl, rfl⟩

/-- Settles O6: every word's completion answers a next state, by the command's rule or as an error. -/
theorem completionEndsBusy : Obligations.CompletionEndsBusy := by
  intro s p hp hdue
  obtain ⟨t, ht⟩ := completeWord_answers_next p.word s
  exact ⟨t, (step_of_due hp hdue).trans ht, busy_eq_false_iff.2 (completeWord_ends_pending ht),
    completeWord_keeps_host ht⟩

/-- Settles O52: each register that is no result of a command is a field of the frame or reads 0. -/
theorem commandsLeaveStagingAlone : Obligations.CommandsLeaveStagingAlone := by
  intro i s t h
  obtain ⟨hdin, hkey, hctrl, hpayload, hoverrun, hhost, hreads, hdraws⟩ := exec_frame h
  refine ⟨hdin, hkey, hctrl, hpayload, hoverrun, hhost, hreads, hdraws, fun o ho => ?_⟩
  cases hr : windowReg o with
  | none => simp only [readWindow, hr]
  | some r =>
    obtain rfl := regOffset_of_windowReg o r hr
    simp only [readWindow_regOffset]
    cases r with
    | ctrl => exact hctrl
    | cmd | key i => rfl
    | payload => exact hpayload
    | din i => exact congrArg (quadWord · i) hdin
    | status | result => exact absurd (by decide) ho
    | dout i | ctr i => exact absurd (by revert i; decide) ho

/-! ### What stops the machine (R54, R207) -/

theorem accessWellFormed_iff {o : Offset} {width : AccessWidth} :
    accessWellFormed o width = true ↔ width = .bits32 ∧ o.toNat % 4 = 0 := by
  simp [accessWellFormed]

theorem hostOp_of_wellFormed {op : HostOp} (h : opWellFormed op = true) (s : State) :
    ∃ t, hostOp op s = .next t := by
  cases op with
  | read o width => exact ⟨_, if_pos h⟩
  | write o width v => exact ⟨_, if_pos h⟩
  | poll | reset => exact ⟨_, rfl⟩

theorem hostOp_of_malformed {op : HostOp} (h : opWellFormed op ≠ true) (s : State) :
    ∃ o width, hostOp op s = .fault (.busError o width) ∧ ¬ (width = .bits32 ∧ o.toNat % 4 = 0) ∧
      (op = .read o width ∨ ∃ v, op = .write o width v) := by
  cases op with
  | read o width => exact ⟨o, width, if_neg h, fun hwf => h (accessWellFormed_iff.2 hwf), .inl rfl⟩
  | write o width v => exact ⟨o, width, if_neg h, fun hwf => h (accessWellFormed_iff.2 hwf), .inr ⟨v, rfl⟩⟩
  | poll | reset => exact absurd rfl h

/-- Where a step is not the Host's next operation it answers a next state. -/
theorem step_answers_next_or_hostOp (s : State) :
    (∃ t, step s = .next t) ∨ ∃ op rest u, s.host = op :: rest ∧ step s = hostOp op u := by
  by_cases hdue : ∃ p, s.pending = some p ∧ p.wait = 0
  · obtain ⟨p, hp, hwait⟩ := hdue
    rw [step_of_due hp (.inl hwait)]
    exact .inl (completeWord_answers_next p.word s)
  · cases hhost : s.host with
    | cons op rest =>
      exact .inr ⟨op, rest, _, rfl, step_of_host_moves (fun p hp hwait => hdue ⟨p, hp, hwait⟩) hhost⟩
    | nil =>
      cases hp : s.pending with
      | none => exact .inl ⟨s, by rw [step_of_idle hp, hostStep, hhost]⟩
      | some p =>
        rw [step_of_due hp (.inr hhost)]
        exact .inl (completeWord_answers_next p.word s)

theorem step_answers_next {s : State} (h : HostWellFormed s) : ∃ t, step s = .next t := by
  rcases step_answers_next_or_hostOp s with hnext | ⟨op, rest, u, hhost, hstep⟩
  · exact hnext
  · rw [hstep]
    exact hostOp_of_wellFormed (h op (by simp [hhost])) u

/-- Settles O9: a step that answers no next state is a malformed operation of the Host. -/
theorem onlyMalformedAccessesStop : Obligations.OnlyMalformedAccessesStop := by
  have hcases (s : State) : (∃ t, step s = .next t) ∨ ∃ o width, step s = .fault (.busError o width) ∧
      ¬ (width = .bits32 ∧ o.toNat % 4 = 0) ∧
      ∃ rest, s.host = .read o width :: rest ∨ ∃ v, s.host = .write o width v :: rest := by
    rcases step_answers_next_or_hostOp s with hnext | ⟨op, rest, u, hhost, hstep⟩
    · exact .inl hnext
    · rw [hstep]
      by_cases hwf : opWellFormed op = true
      · exact .inl (hostOp_of_wellFormed hwf u)
      · obtain ⟨o, width, hfault, hbad, rfl | ⟨v, rfl⟩⟩ := hostOp_of_malformed hwf u
        · exact .inr ⟨o, width, hfault, hbad, rest, .inl hhost⟩
        · exact .inr ⟨o, width, hfault, hbad, rest, .inr ⟨v, hhost⟩⟩
  refine ⟨fun s r h => ?refused, fun s o width h => ?fault⟩
  case refused =>
    rcases hcases s with ⟨t, ht⟩ | ⟨o, width, hfault, -⟩
    · cases h.symm.trans ht
    · cases h.symm.trans hfault
  case fault =>
    rcases hcases s with ⟨t, ht⟩ | ⟨o', width', hfault, hbad⟩
    · cases h.symm.trans ht
    · cases h.symm.trans hfault
      exact hbad

/-! ### The Host's step: the list, the pair and BUSY -/

/-- The active configuration of two states is the same (R31). -/
def SamePair (t s : State) : Prop :=
  t.aKey = s.aKey ∧ t.aVariant = s.aVariant ∧ t.aTol = s.aTol ∧ t.aPayload = s.aPayload ∧
    t.configured = s.configured

theorem SamePair.refl (s : State) : SamePair s s := ⟨rfl, rfl, rfl, rfl, rfl⟩

theorem busRead_frame (o : Offset) (s : State) :
    SamePair (busRead o s) s ∧ (busRead o s).host = s.host ∧ (busRead o s).pending = s.pending := by
  rcases busRead_eq o s with ⟨hr, -⟩ | ⟨hr, -⟩ <;> rw [hr] <;> exact ⟨SamePair.refl s, rfl, rfl⟩

theorem writeReg_frame (r : WindowReg) (v : Word) (s : State) :
    SamePair (writeReg r v s) s ∧ (writeReg r v s).host = s.host ∧
      (r ≠ .cmd → (writeReg r v s).pending = s.pending) := by
  cases r with
  | cmd => exact ⟨SamePair.refl s, rfl, fun h => absurd rfl h⟩
  | status => rw [writeReg]; split <;> exact ⟨SamePair.refl s, rfl, fun _ => rfl⟩
  | ctrl | result | key i | payload | din i | dout i | ctr i => exact ⟨SamePair.refl s, rfl, fun _ => rfl⟩

theorem busWrite_frame (o : Offset) (v : Word) (s : State) :
    SamePair (busWrite o v s) s ∧ (busWrite o v s).host = s.host ∧
      (s.busy = true ∨ o ≠ 0x04#8 → (busWrite o v s).pending = s.pending) := by
  rcases busWrite_cases o v s with ⟨-, hw⟩ | ⟨-, -, hw⟩ | ⟨hb, r, hr, hw⟩
  · rw [hw]
    exact ⟨SamePair.refl s, rfl, fun _ => rfl⟩
  · rw [hw]
    exact ⟨SamePair.refl s, rfl, fun _ => rfl⟩
  · obtain ⟨hpair, hhost, hpending⟩ := writeReg_frame r v s
    rw [hw]
    refine ⟨hpair, hhost, fun hne => hpending ?_⟩
    rintro rfl
    exact hne.elim (by simp [hb]) fun h => h (regOffset_of_windowReg o _ hr).symm

/-- A Host step is a reset, or leaves the pair and, but for a write to CMD while BUSY = 0, the pending command. -/
theorem hostStep_frame {s t : State} (h : hostStep s = .next t) :
    (∃ rest, s.host = .reset :: rest ∧ t = (s.setHost rest).resetBlock) ∨
    ((∀ rest, s.host ≠ .reset :: rest) ∧ SamePair t s ∧
      (s.busy = true ∨ (∀ w rest, s.host ≠ .write 0x04#8 .bits32 w :: rest) → t.pending = s.pending)) := by
  rcases hostStep_next h with ⟨hhost, rfl⟩ | ⟨o, rest, hhost, -, rfl⟩ | ⟨o, v, rest, hhost, -, rfl⟩ |
    ⟨rest, hhost, ⟨-, rfl⟩ | ⟨-, rfl⟩⟩ | hreset
  · exact .inr ⟨by simp [hhost], SamePair.refl t, fun _ => rfl⟩
  · obtain ⟨hpair, -, hpending⟩ := busRead_frame o (s.setHost rest)
    exact .inr ⟨by simp [hhost], hpair, fun _ => hpending⟩
  · obtain ⟨hpair, -, hpending⟩ := busWrite_frame o v (s.setHost rest)
    refine .inr ⟨by simp [hhost], hpair, fun hne => hpending (hne.imp_right fun hw ho => ?_)⟩
    exact hw v rest (ho ▸ hhost)
  · exact .inr ⟨by simp [hhost], SamePair.refl t, fun _ => rfl⟩
  · exact .inr ⟨by simp [hhost], SamePair.refl s, fun _ => rfl⟩
  · exact .inl hreset

/-- A Host step takes its operation off the list, or is a poll that changes nothing because BUSY = 1. -/
theorem hostStep_host {s t : State} (h : hostStep s = .next t) :
    t.host = s.host.tail ∨ (s.busy = true ∧ t = s) := by
  rcases hostStep_next h with ⟨hhost, rfl⟩ | ⟨o, rest, hhost, -, rfl⟩ | ⟨o, v, rest, hhost, -, rfl⟩ |
    ⟨rest, hhost, ⟨hb, rfl⟩ | ⟨-, rfl⟩⟩ | ⟨rest, hhost, rfl⟩
  · exact .inl (by simp [hhost])
  · obtain ⟨-, hkeep, -⟩ := busRead_frame o (s.setHost rest)
    exact .inl (by simp [hkeep, hhost])
  · obtain ⟨-, hkeep, -⟩ := busWrite_frame o v (s.setHost rest)
    exact .inl (by simp [hkeep, hhost])
  · exact .inr ⟨hb, rfl⟩
  · exact .inl (by simp [hhost])
  · exact .inl (by simp [hhost])

theorem step_host_subset {s t : State} (h : step s = .next t) : t.host ⊆ s.host := by
  have htail {u : State} (hu : hostStep u = .next t) : t.host ⊆ u.host := by
    rcases hostStep_host hu with ht | ⟨-, rfl⟩
    · rw [ht]
      exact List.tail_subset u.host
    · exact List.Subset.refl _
  rcases step_next h with ⟨p, -, -, hc⟩ | ⟨p, -, -, -, hh⟩ | ⟨-, hh⟩
  · rw [(completeWord_keeps_host hc).1]
    exact List.Subset.refl _
  · exact htail (u := s.tick) hh
  · exact htail hh

theorem step_keeps_hostWellFormed {s t : State} (h : step s = .next t) (hwf : HostWellFormed s) :
    HostWellFormed t := fun op hop => hwf op (step_host_subset h hop)

/-! ### What begins and ends BUSY (R37, R180, R184, R230) -/

/-- The Host step of a write to CMD while BUSY = 0 is the issue of the word. -/
theorem step_write_cmd_pending {s t : State} {w : Word} {rest : List HostOp} (hb : s.busy = false)
    (hhost : s.host = .write 0x04#8 .bits32 w :: rest) (h : step s = .next t) : ∃ n, t.pending = some ⟨w, n⟩ := by
  cases (step_write_regOffset (r := .cmd) hb hhost).symm.trans h
  exact ⟨_, rfl⟩

/-- A step from a state with a command pending is its due completion, a reset, or leaves it pending, one Host step
nearer. -/
theorem step_of_pending {s t : State} {p : Pending} (hp : s.pending = some p) (h : step s = .next t) :
    ((p.wait = 0 ∨ s.host = []) ∧ completeWord p.word s = .next t ∧ t.pending = none) ∨
    (p.wait ≠ 0 ∧ ∃ rest, s.host = .reset :: rest ∧ t = (s.setHost rest).resetBlock) ∨
    (p.wait ≠ 0 ∧ s.host ≠ [] ∧ (∀ rest, s.host ≠ .reset :: rest) ∧ t.pending = some ⟨p.word, p.wait - 1⟩) := by
  by_cases hdue : p.wait = 0 ∨ s.host = []
  · rw [step_of_due hp hdue] at h
    exact .inl ⟨hdue, h, completeWord_ends_pending h⟩
  · obtain ⟨hwait, hhost⟩ := not_or.1 hdue
    rw [step_of_waiting hp hwait hhost] at h
    have hb : s.tick.busy = true := by simp [State.busy, hp]
    rcases hostStep_frame h with ⟨rest, hreset, rfl⟩ | ⟨hreset, -, hpending⟩
    · exact .inr (.inl ⟨hwait, rest, hreset, rfl⟩)
    · refine .inr (.inr ⟨hwait, hhost, hreset, ?_⟩)
      rw [hpending (.inl hb), State.tick_of_pending hp]

/-- Settles O60: an idle step keeps BUSY = 0 unless it is the write to CMD, and a step with a command pending is one of
three kinds. -/
theorem busyLastsFromIssueToCompletion : Obligations.BusyLastsFromIssueToCompletion := by
  refine ⟨fun s t hb h => ⟨⟨?issue, ?begins⟩, fun w rest hhost => step_write_cmd_pending hb hhost h⟩,
    fun s t p hp h => ?ends⟩
  case issue =>
    intro ht
    by_contra hno
    have hp := State.pending_of_idle hb
    rw [step_of_idle hp] at h
    have hpending : t.pending = none := by
      rcases hostStep_frame h with ⟨rest, -, rfl⟩ | ⟨-, -, hkeep⟩
      · rfl
      · exact (hkeep (.inr fun w rest hhost => hno ⟨w, rest, hhost⟩)).trans hp
    simp [State.busy, hpending] at ht
  case begins =>
    rintro ⟨w, rest, hhost⟩
    obtain ⟨n, hn⟩ := step_write_cmd_pending hb hhost h
    simp [State.busy, hn]
  case ends =>
    rcases step_of_pending hp h with ⟨hdue, hc, ht⟩ | ⟨hwait, rest, hreset, rfl⟩ | ⟨hwait, hhost, hreset, ht⟩
    · have hb := busy_eq_false_iff.2 ht
      exact ⟨iff_of_true hb (.inl ⟨hdue, hc⟩), by simp [hb]⟩
    · exact ⟨iff_of_true rfl (.inr ⟨hwait, rest, hreset⟩), nofun⟩
    · exact ⟨by simp [State.busy, ht, hwait, hhost, hreset], fun _ => ht⟩

/-! ### Every command and every Host program ends (R184, R207, R250) -/

theorem run_succ_of_step {s t : State} (h : step s = .next t) (n : Nat) : run (n + 1) s = run n t := by
  rw [run, h]

theorem run_add_of_next {n : Nat} {s u : State} (h : run n s = .next u) (m : Nat) : run (n + m) s = run m u := by
  induction n generalizing s with
  | zero => cases h; rw [Nat.zero_add]
  | succ n ih =>
    rw [run] at h
    split at h
    · next t ht => rw [Nat.succ_add, run_succ_of_step ht, ih h]
    · cases h
    · cases h

/-- While a command is pending, at most as many steps as its count lead to a state in which its completion is due, with
its word and operands as they were, or to the reset that abandons it. -/
theorem run_reaches_completion {s : State} {p : Pending} (hp : s.pending = some p) (hwf : HostWellFormed s) :
    ∃ n u, n ≤ p.wait ∧ run n s = .next u ∧
      ((∃ q, u.pending = some q ∧ (q.wait = 0 ∨ u.host = []) ∧ q.word = p.word ∧
        u = { s with overrun := u.overrun, pending := u.pending, host := u.host, reads := u.reads, draws := u.draws }) ∨
      (u.pending = none ∧ HostOp.reset ∈ s.host)) := by
  obtain ⟨w, n⟩ := p
  induction n generalizing s with
  | zero => exact ⟨0, s, le_rfl, rfl, .inl ⟨_, hp, .inl rfl, rfl, rfl⟩⟩
  | succ n ih =>
    obtain ⟨t, ht⟩ := step_answers_next hwf
    rcases step_of_pending hp ht with ⟨hdue, -, -⟩ | ⟨-, rest, hreset, rfl⟩ | ⟨-, -, -, hpending⟩
    · exact ⟨0, s, Nat.zero_le _, rfl, .inl ⟨_, hp, hdue, rfl, rfl⟩⟩
    · exact ⟨1, _, by simp, run_succ_of_step ht 0, .inr ⟨rfl, by simp [hreset]⟩⟩
    · obtain ⟨m, u, hm, hrun, hu⟩ := ih (step_keeps_hostWellFormed ht hwf) hpending
      refine ⟨m + 1, u, Nat.succ_le_succ hm, (run_succ_of_step ht m).trans hrun, ?_⟩
      rcases hu with ⟨q, hq, hdue, hword, hframe⟩ | ⟨hq, hreset⟩
      · obtain ⟨-, htframe⟩ := step_keeps_pending_operands ht hp hpending
        exact .inl ⟨q, hq, hdue, hword, hframe.trans (by rw [htframe])⟩
      · exact .inr ⟨hq, step_host_subset ht hreset⟩

/-- Settles O7: the state in which the completion is due, and one step more. -/
theorem everyIssuedCommandCompletes : Obligations.EveryIssuedCommandCompletes := by
  refine ⟨fun s p hp hwf hnoReset => ?completes, fun s p hp hwf => ?ends⟩
  case completes =>
    obtain ⟨n, u, hn, hrun, ⟨q, hq, hdue, hword, hframe⟩ | ⟨-, hreset⟩⟩ := run_reaches_completion hp hwf
    · obtain ⟨t, ht⟩ := completeWord_answers_next p.word u
      have hstep : step u = completeWord p.word u := hword ▸ step_of_due hq hdue
      exact ⟨n, u, t, q, hn, hrun, hq, hword, hframe, hstep, ht, busy_eq_false_iff.2 (completeWord_ends_pending ht)⟩
    · exact absurd hreset hnoReset
  case ends =>
    obtain ⟨n, u, hn, hrun, ⟨q, hq, hdue, -, -⟩ | ⟨hq, -⟩⟩ := run_reaches_completion hp hwf
    · obtain ⟨t, ht⟩ := completeWord_answers_next q.word u
      refine ⟨n + 1, t, Nat.succ_le_succ hn, ?_, busy_eq_false_iff.2 (completeWord_ends_pending ht)⟩
      rw [run_add_of_next hrun, run_succ_of_step ((step_of_due hq hdue).trans ht), run]
    · exact ⟨n, u, by omega, hrun, busy_eq_false_iff.2 hq⟩

/-- How many steps the pending command has at most to go, its completion included. -/
def stepsPending (s : State) : Nat := s.pending.elim 0 fun p => p.wait + 1

/-- A step of a run that is not over takes an operation off the Host's list, or brings the pending command nearer to its
end. -/
theorem step_decreases {s t : State} (h : step s = .next t) (hf : ¬ Final s) :
    t.host.length < s.host.length ∨ (t.host.length = s.host.length ∧ stepsPending t < stepsPending s) := by
  have htail {l : List HostOp} (hl : l ≠ []) : l.tail.length < l.length := by
    rw [List.length_tail]
    have := List.length_pos_of_ne_nil hl
    omega
  rcases step_next h with ⟨p, hp, -, hc⟩ | ⟨p, hp, hwait, hhost, hh⟩ | ⟨hp, hh⟩
  · rw [(completeWord_keeps_host hc).1]
    exact .inr ⟨rfl, by simp [stepsPending, hp, completeWord_ends_pending hc]⟩
  · rcases hostStep_host hh with ht | ⟨-, rfl⟩
    · rw [ht]
      exact .inl (htail hhost)
    · exact .inr ⟨rfl, by simp [stepsPending, hp]; omega⟩
  · have hb := busy_eq_false_iff.2 hp
    rcases hostStep_host hh with ht | ⟨hbusy, -⟩
    · rw [ht]
      exact .inl (htail fun hhost => hf ⟨hhost, hb⟩)
    · simp [hb] at hbusy

theorem run_reaches_final (s : State) (hwf : HostWellFormed s) : ∃ n t, run n s = .next t ∧ Final t := by
  by_cases hf : Final s
  · exact ⟨0, s, rfl, hf⟩
  · obtain ⟨u, hu⟩ := step_answers_next hwf
    have hless := step_decreases hu hf
    obtain ⟨n, t, hrun, ht⟩ := run_reaches_final u (step_keeps_hostWellFormed hu hwf)
    exact ⟨n + 1, t, (run_succ_of_step hu n).trans hrun, ht⟩
termination_by (s.host.length, stepsPending s)
decreasing_by exact Prod.lex_def.2 hless

/-- Settles O8: by induction on the Host's list and the count of the pending command. -/
theorem everyRunEnds : Obligations.EveryRunEnds := run_reaches_final

/-! ### What changes the pair (R31, R183, R230) -/

/-- The Engine changes the pair by CONFIGURE only. -/
theorem exec_keeps_pair {i : Instr} {s t : State} (h : exec i s = .next t) (hi : i ≠ .configure) : SamePair t s := by
  rcases exec_next h with ⟨e, rfl, -⟩ | ⟨hc, -⟩ | ⟨hc, -⟩ | ⟨-, rfl⟩ | ⟨-, q, rfl⟩ | ⟨-, -, k, -, -, rfl⟩ |
    ⟨-, rfl⟩ | ⟨-, -, q, c, k, rfl⟩ | ⟨-, q, rfl⟩
  case inr.inl => exact absurd hc hi
  case inr.inr.inl => exact absurd hc hi
  all_goals exact SamePair.refl s

theorem step_keeps_pair {s t : State} (h : step s = .next t) :
    SamePair t s ∨
    (∃ p, s.pending = some p ∧ (p.wait = 0 ∨ s.host = []) ∧ decode p.word = .ok .configure ∧
      exec .configure s = .next t ∧ t.busy = false) ∨
    (∃ rest, s.host = .reset :: rest ∧ (∀ p, s.pending = some p → p.wait ≠ 0) ∧
      t = { State.reset with host := rest, reads := t.reads, draws := t.draws }) := by
  rcases step_next h with ⟨p, hp, hdue, hc⟩ | ⟨p, hp, hwait, -, hh⟩ | ⟨hp, hh⟩
  · rcases completeWord_next hc with ⟨i, hi, hexec⟩ | ⟨e, -, rfl⟩
    · by_cases hconf : i = .configure
      · subst hconf
        exact .inr (.inl ⟨p, hp, hdue, hi, hexec, busy_eq_false_iff.2 (completeWord_ends_pending hc)⟩)
      · exact .inl (exec_keeps_pair hexec hconf)
    · exact .inl (SamePair.refl s)
  · rcases hostStep_frame hh with ⟨rest, hhost, rfl⟩ | ⟨-, hpair, -⟩
    · exact .inr (.inr ⟨rest, hhost, by simp [hp, hwait], rfl⟩)
    · exact .inl hpair
  · rcases hostStep_frame hh with ⟨rest, hhost, rfl⟩ | ⟨-, hpair, -⟩
    · exact .inr (.inr ⟨rest, hhost, by simp [hp], rfl⟩)
    · exact .inl hpair

/-- Settles O14: of the steps that change the pair a reset leaves none, and CONFIGURE leaves one for the variant's key
length only. -/
theorem onlyConfigureChangesThePair : Obligations.OnlyConfigureChangesThePair := by
  refine ⟨fun s t h => step_keeps_pair h, fun s t h hs ht => ?_⟩
  rcases step_keeps_pair h with ⟨-, -, -, -, hsame⟩ | ⟨p, hp, -, hdecode, hexec, -⟩ | ⟨rest, -, -, hreset⟩
  · cases hs.symm.trans (hsame.symm.trans ht)
  · refine ⟨p, hp, hdecode, ?_⟩
    rcases execConfigure_next hexec with ⟨hlen, -⟩ | ⟨-, rfl⟩
    · exact hlen.trans (requiredKeyBytes_ctrlVariant s)
    · cases ht
  · rw [hreset] at ht
    cases ht

end Sys2Proof.Machine
end

section
/-! The pair at work (40_keeloq_cipher.md, 41_code_generator.md, 42_rolling_matcher.md): the round trip through the
cipher, what a code depends on, and what moves the receiver counter. -/

namespace Sys2Proof.Machine

/-! ### The cipher and the generator (R110, R112, R136) -/

/-- KLQ_DECRYPT of an encrypted block splits the block (R108, R112). -/
theorem execKlqDecrypt_of_encrypted {s : State} {b : KlqBlock} (hc : s.configured = true) (hv : s.aVariant = .keeloq)
    (hb : operandBlock s = klqEncrypt (klqKey s) b) :
    execKlqDecrypt s =
      .next (s.setDout ⟨0#32, 0#32, (klqCounterOf b).setWidth 32, (klqPayloadOf b).setWidth 32⟩).finish := by
  rw [execKlqDecrypt_of_pair hc hv, hb, klqDecrypt_klqEncrypt]

/-- Settles O31: the decrypted block is the counter above the payload that KLQ_ENCRYPT packed. -/
theorem encryptThenDecryptGivesBack : Obligations.EncryptThenDecryptGivesBack := by
  intro s hc hv
  obtain ⟨c, hcode⟩ : ∃ c, klqEncrypt (klqKey s) (operandCounter s ++ operandPayload s) = c := ⟨_, rfl⟩
  have hencrypt := execKlqEncrypt_of_pair hc hv
  rw [hcode] at hencrypt
  refine ⟨_, _, hencrypt, execKlqDecrypt_of_encrypted hc hv hcode.symm, ?_⟩
  rw [State.finish_dout, State.setDout_dout, klqCounterOf_append, klqPayloadOf_append]
  rfl

/-- Settles O34: the code of each variant, written out, names nothing else. -/
theorem generateDependsOnKeyAndCounter : Obligations.GenerateDependsOnKeyAndCounter := by
  intro s t hcs hct hvar hkey hklq haes
  cases hv : s.aVariant with
  | aes =>
    refine ⟨_, _, execGenerate_of_aes hcs hv, execGenerate_of_aes hct (hvar ▸ hv), ?_, rfl, rfl⟩
    simp [operandWide, hkey, haes hv]
  | keeloq =>
    obtain ⟨hpayload, hcounter⟩ := hklq hv
    refine ⟨_, _, execGenerate_of_keeloq hcs hv, execGenerate_of_keeloq hct (hvar ▸ hv), ?_, rfl, rfl⟩
    simp [klqKey_eq, operandGenCounter_eq, hkey, hpayload, hcounter]

/-! ### The receiver counter (R30, R131, R152, R155 to R158) -/

/-- OFFSET of a match holds its offset, which the tolerance bounds. -/
theorem offsetField_resultAccept_toNat (s : State) {k : Nat} {tol : Tolerance} (hk : k ≤ tol.toNat) :
    (offsetField (s.setResult (resultAccept k)).finish).toNat = k := by
  rw [offsetField_resultAccept, BitVec.toNat_ofNat, Nat.mod_eq_of_lt (hk.trans_lt tol.isLt)]

/-- Settles O36: the search finds the least matching offset, and the last counter of all is an error. -/
theorem aesAcceptanceLaw : Obligations.AesAcceptanceLaw := by
  intro s hc hv hs
  refine ⟨fun t h ht => ?law, fun e hlo hhi hlast hdin hdistinct => ?emitter⟩
  case law =>
    rcases execAesCompare_next h with ⟨e, -, rfl⟩ | ⟨-, ⟨k, -, -, rfl⟩ | ⟨k, hk, hover, rfl⟩ | ⟨hnone, rfl⟩⟩
    · cases ht
    · cases ht
    · obtain ⟨⟨hlt, hcode⟩, htol, hleast⟩ := aesMatch_eq_some.1 hk
      have hoffset := offsetField_resultAccept_toNat (s.setCtr (BitVec.ofNat 128 (s.ctr.toNat + k + 1))) htol
      rw [hoffset]
      refine ⟨iff_of_true (acceptBit_resultAccept _ k) ⟨k, htol, by omega, hcode⟩, fun _ =>
        ⟨htol, hcode, hleast, ?_⟩⟩
      exact Nat.mod_eq_of_lt (by omega)
    · have hreject := acceptBit_resultReject s
      refine ⟨iff_of_false (by simp [hreject]) ?_, by simp [hreject]⟩
      rintro ⟨k, htol, hlt, hcode⟩
      exact aesMatch_eq_none.1 hnone k htol (by omega) hcode
  case emitter =>
    have hcounter : s.ctr.toNat + (e - s.ctr.toNat) = e := by omega
    have htol : e - s.ctr.toNat ≤ s.aTol.toNat := by omega
    have hmatch : aesMatch s.aKey s.ctr s.aTol (operandWide s) = some (e - s.ctr.toNat) := by
      refine aesMatch_eq_some.2 ⟨⟨by omega, by rw [hcounter]; exact hdin.symm⟩, htol, fun j hj hcode => ?_⟩
      exact hdistinct (s.ctr.toNat + j) e (by omega) (by omega) le_rfl (hcode.trans hdin)
    have hexec := execAesCompare_of_match hc hv hmatch
    rw [hcounter, if_neg (by omega)] at hexec
    refine ⟨_, hexec, hs, acceptBit_resultAccept _ _, offsetField_resultAccept_toNat _ htol, ?_⟩
    exact Nat.mod_eq_of_lt (by omega)

/-- Settles O37: only counters below 2^128 have codes, and the last of them is its window's only candidate. -/
theorem absentCandidatesMatchNothing : Obligations.AbsentCandidatesMatchNothing := by
  refine ⟨fun K v => ?_, fun K n hn => ?_, fun K c k => ⟨fun hlt => ?_, fun hge => ?_⟩, fun s hc hv hlast hne => ?_⟩
  · rw [aesGen_eq, if_pos v.isLt, BitVec.ofNat_toNat, BitVec.setWidth_eq]
  · rw [aesGen_eq, if_neg (by omega)]
  · exact aesCandidate_eq_some.2 ⟨hlt, rfl⟩
  · rw [aesCandidate, aesGen_eq, if_neg (by omega)]
  · refine execAesCompare_of_noMatch hc hv (aesMatch_eq_none.2 fun k _ hlt => ?_)
    have hmax : s.ctr.toNat = 2 ^ 128 - 1 := by rw [hlast, BitVec.toNat_allOnes]
    obtain rfl : k = 0 := by omega
    rw [Nat.add_zero, BitVec.ofNat_toNat, BitVec.setWidth_eq]
    exact hne

/-- Settles O40: the commands that write CTRL are those whose case names a new value. -/
theorem counterMovesOnlyOnAccept : Obligations.CounterMovesOnlyOnAccept := by
  intro i s t h
  have hsame {c : Counter} (hc : c = s.ctr) : s.ctr.toNat ≤ c.toNat ∧ c.toNat ≤ s.ctr.toNat + s.aTol.toNat + 1 := by
    rw [hc]
    omega
  rcases exec_next h with ⟨e, rfl, -⟩ | ⟨-, rfl⟩ | ⟨hi, rfl⟩ | ⟨-, rfl⟩ | ⟨-, q, rfl⟩ | ⟨rfl, -, k, hlt, hk, rfl⟩ |
    ⟨-, rfl⟩ | ⟨rfl, hv, q, c, k, rfl⟩ | ⟨-, q, rfl⟩
  case inr.inr.inl =>
    exact ⟨fun _ => .inl ⟨hi, rfl⟩, fun hne => absurd hi hne⟩
  case inr.inr.inr.inr.inr.inl =>
    refine ⟨fun _ => .inr ⟨by simp, acceptBit_resultAccept _ k, rfl⟩, fun _ _ => ?_⟩
    have hctr : (BitVec.ofNat 128 (s.ctr.toNat + k + 1)).toNat = s.ctr.toNat + k + 1 := Nat.mod_eq_of_lt hlt
    rw [State.finish_ctr, State.setResult_ctr, State.setCtr_ctr, hctr]
    omega
  case inr.inr.inr.inr.inr.inr.inr.inl =>
    exact ⟨fun _ => .inr ⟨by simp, acceptBit_resultAccept _ k, rfl⟩, by simp [hv]⟩
  all_goals exact ⟨fun hne => absurd rfl hne, fun _ _ => hsame rfl⟩

end Sys2Proof.Machine
end

section
/-! The register window read and written (10_state.md, 20_memory.md): the layout of STATUS, the bytes of a code, what
each Host access stores and returns, and that none returns the key. -/

namespace Sys2Proof

/-! ### The commands as words (R70 to R72) -/

/-- Settles O1: the assigned words are the encodings, and no row covers the others. -/
theorem opcodeMapIsDecoded : Obligations.OpcodeMapIsDecoded :=
  ⟨decode_encode .nop, decode_encode .configure, decode_encode .generate, decode_encode .aesCompare,
    decode_encode .klqReceive, decode_encode .klqEncrypt, decode_encode .klqDecrypt, rfl, rfl, rfl⟩

/-- Settles O2: each command has its row in the opcode map. -/
theorem decodeInvertsEncode : Obligations.DecodeInvertsEncode := by
  intro i
  obtain ⟨hinstr, hword, -, hdecode⟩ := Laws.Encoding.statement i
  exact ⟨hinstr, hword, hdecode⟩

namespace Machine

/-! ### STATUS (R26, R200) -/

/-- The flags but CONFIGURED are bits 0, 2 and 3 (R26). -/
theorem statusWord_flags (s : State) :
    (statusWord s).getLsbD 0 = s.busy ∧ (statusWord s).getLsbD 2 = s.err ∧ (statusWord s).getLsbD 3 = s.overrun := by
  simp only [statusWord, BitVec.getLsbD_append, BitVec.getLsbD_ofBool]
  exact ⟨rfl, rfl, rfl⟩

/-- STATUS.ERRCODE lies above the four flags. -/
theorem statusWord_errCode (s : State) : (statusWord s).extractLsb' 4 4 = errorBits s.errCode := by
  rw [statusWord]
  iterate 4 rw [BitVec.extractLsb'_append_eq_of_le (by decide)]
  exact BitVec.extractLsb'_append_eq_right

/-- Bits 15:9 lie above ACTIVE_VARIANT, ERRCODE and the four flags. -/
theorem statusWord_reserved_low (s : State) : (statusWord s).extractLsb' 9 7 = 0#7 := by
  rw [statusWord]
  iterate 6 rw [BitVec.extractLsb'_append_eq_of_le (by decide)]
  exact BitVec.extractLsb'_append_eq_right

/-- Bits 31:24 lie above all the fields. -/
theorem statusWord_reserved_high (s : State) : (statusWord s).extractLsb' 24 8 = 0#8 := by
  rw [statusWord]
  iterate 7 rw [BitVec.extractLsb'_append_eq_of_le (by decide)]
  exact BitVec.extractLsb'_append_eq_left

theorem activeVariant_getLsbD (s : State) :
    (activeVariant s).getLsbD 0 = (s.configured && decide (s.aVariant = .keeloq)) := by
  unfold activeVariant
  cases s.configured <;> cases s.aVariant <;> rfl

/-- Settles O42: field by field, and the rule of STATUS for a write. -/
theorem statusLayout : Obligations.StatusLayout := by
  intro s
  obtain ⟨hbusy, herr, hoverrun⟩ := statusWord_flags s
  refine ⟨hbusy, statusWord_configured s, herr, hoverrun, ?code, ?variant,
    statusWord_reserved_low s, statusWord_activeTol s, statusWord_reserved_high s, fun hb v => ?write⟩
  case code =>
    rw [statusWord_errCode]
    cases s.errCode <;> rfl
  case variant => rw [statusWord_activeVariant, activeVariant_getLsbD]
  case write =>
    refine (hostOp_write_regOffset hb .status v).trans ?_
    rw [writeReg]
    split <;> rfl

/-! ### The bytes of a code (R53) -/

/-- Settles O44: word i starts 96 - 32 * i bits up, and its byte j another 24 - 8 * j. -/
theorem codesAreBigEndian : Obligations.CodesAreBigEndian := by
  refine ⟨fun q i j n hn => ?_, fun v => ?_⟩
  · apply BitVec.eq_of_getLsbD_eq
    intro k hk
    have hbit : 120 - 8 * n.val + k = 96 - 32 * i.val + (24 - 8 * j.val + k) := by omega
    simp only [codeByte, klqByte, quadWord_eq_extract, BitVec.getLsbD_extractLsb', hbit]
    simp [hk, show 24 - 8 * j.val + k < 32 by omega]
  · change v.extractLsb' 24 8 ++ v.extractLsb' 16 8 ++ v.extractLsb' 8 8 ++ v.extractLsb' 0 8 = v
    iterate 3 rw [BitVec.extractLsb'_append_extractLsb'_eq_extractLsb' (by rfl)]
    exact BitVec.extractLsb'_eq_self

/-! ### Reads and writes of the window (R51, R55, R57, R59) -/

/-- Settles O41: each offset of the map is that of its register. -/
theorem registerMapReads : Obligations.RegisterMapReads := by
  refine ⟨fun s r hb => ?_, fun s =>
    ⟨rfl, rfl, rfl, rfl, rfl, rfl, rfl, rfl, rfl, rfl, rfl, rfl, rfl, rfl, rfl, rfl, rfl, rfl, rfl, rfl, rfl⟩⟩
  rw [hostOp_read_regOffset hb, readWindow_regOffset]
  rfl

theorem readWindow_busWrite_din {s : State} (hb : s.busy = false) (i : Fin 4) (v : Word) :
    readWindow (regOffset (.din i)) (busWrite (regOffset (.din i)) v s) = v := by
  rw [readWindow_regOffset, busWrite_of_idle hb]
  exact quadWord_quadSet_same s.din i v

/-- Settles O48: each write is the rule of the register at its offset. -/
theorem stagingWritesStore : Obligations.StagingWritesStore := by
  refine ⟨fun s o v halign => hostOp_write halign v s, fun s v hb => ?_⟩
  have hwrite := fun r => hostOp_write_regOffset hb r v
  refine ⟨hwrite .ctrl, hwrite .payload, hwrite (.din 0), hwrite (.din 1), hwrite (.din 2), hwrite (.din 3), ?din,
    congrArg (readWindow 0x00#8) (busWrite_of_idle hb .ctrl v),
    congrArg (readWindow 0x20#8) (busWrite_of_idle hb .payload v)⟩
  case din =>
    have hread := fun i => readWindow_busWrite_din hb i v
    simp only [List.forall_mem_cons]
    exact ⟨hread 0, hread 1, hread 2, hread 3, by simp⟩

theorem volatileReg_of_readOnly {r : WindowReg} (h : ReadOnlyReg r) : volatileReg r = true := by
  cases h <;> rfl

/-- The offsets of RESULT, DOUT and CTR, whose value is free while BUSY = 1 (R51, R59). -/
def volatileOffsets : List Offset :=
  [0x0C#8, 0x40#8, 0x44#8, 0x48#8, 0x4C#8, 0x50#8, 0x54#8, 0x58#8, 0x5C#8]

theorem regOffset_mem_of_volatile {r : WindowReg} (h : volatileReg r = true) : regOffset r ∈ volatileOffsets := by
  cases r with
  | result => decide
  | dout i | ctr i => revert i; decide
  | ctrl | cmd | status | key i | payload | din i => cases h

theorem readUnspecified_iff {o : Offset} {s : State} :
    readUnspecified o s = true ↔ s.busy = true ∧ o ∈ volatileOffsets := by
  rw [readUnspecified, Bool.and_eq_true]
  refine and_congr_right fun _ => ⟨fun h => ?_, fun h => ?_⟩
  · cases hr : windowReg o with
    | none => simp [hr] at h
    | some r =>
      rw [← regOffset_of_windowReg o r hr]
      exact regOffset_mem_of_volatile (by simpa [hr] using h)
  · obtain ⟨r, hr, rfl⟩ := readOnlyReg_of_offset o h
    simp [volatileReg_of_readOnly hr]

theorem hostOp_read_of_specified {o : Offset} {s : State} (halign : o.toNat % 4 = 0)
    (h : ¬ (s.busy = true ∧ o ∈ volatileOffsets)) :
    hostOp (.read o .bits32) s = .next (s.logRead (readWindow o s)) := by
  rw [hostOp_read halign, busRead_of_specified (by rwa [← Bool.not_eq_true, readUnspecified_iff])]

/-- Settles O49: the value is free exactly where BUSY = 1 meets a volatile offset. -/
theorem readsHaveNoSideEffect : Obligations.ReadsHaveNoSideEffect := by
  intro s o halign
  refine ⟨hostOp_read halign s, fun hb => hostOp_read_of_specified halign (by simp [hb]),
    fun _ ho => hostOp_read_of_specified halign fun h => ho h.2, fun hb ho => ?_⟩
  rw [hostOp_read halign, busRead, if_pos (readUnspecified_iff.2 ⟨hb, ho⟩)]
  rfl

/-! ### The key is not read back (R62) -/

/-- A state with other keys: KEY and A_KEY replaced. -/
def State.withKeys (k : Quad) (a : Wide) (s : State) : State := { s with key := k, aKey := a }

theorem readWindow_withKeys (o : Offset) (k : Quad) (a : Wide) (s : State) :
    readWindow o (s.withKeys k a) = readWindow o s := by
  unfold readWindow
  split
  · next r _ => cases r <;> rfl
  · rfl

theorem busRead_withKeys (o : Offset) (k : Quad) (a : Wide) (s : State) :
    busRead o (s.withKeys k a) = (busRead o s).withKeys k a := by
  have hfree : readUnspecified o (s.withKeys k a) = readUnspecified o s := rfl
  rw [busRead, busRead, hfree, readWindow_withKeys]
  split <;> rfl

theorem writeReg_withKeys (r : WindowReg) (v : Word) (k : Quad) (a : Wide) (s : State) :
    ∃ k', writeReg r v (s.withKeys k a) = (writeReg r v s).withKeys k' a := by
  cases r with
  | key i => exact ⟨quadSet k i v, rfl⟩
  | status => exact ⟨k, by rw [writeReg, writeReg]; split <;> rfl⟩
  | ctrl | cmd | result | payload | din i | dout i | ctr i => exact ⟨k, rfl⟩

theorem busWrite_withKeys (o : Offset) (v : Word) (k : Quad) (a : Wide) (s : State) :
    ∃ k', busWrite o v (s.withKeys k a) = (busWrite o v s).withKeys k' a := by
  have hbusy : (s.withKeys k a).busy = s.busy := rfl
  unfold busWrite
  rw [hbusy]
  split
  · exact ⟨k, rfl⟩
  · split
    · next r _ => exact writeReg_withKeys r v k a s
    · exact ⟨k, rfl⟩

/-- A Host operation on a state with other keys does the same, but for the keys. -/
theorem hostOp_withKeys {op : HostOp} {s t : State} (k : Quad) (a : Wide) (h : hostOp op s = .next t) :
    ∃ k' a', hostOp op (s.withKeys k a) = .next (t.withKeys k' a') := by
  cases op with
  | read o width =>
    simp only [hostOp] at h ⊢
    split at h
    · next hwf => cases h; exact ⟨k, a, by rw [if_pos hwf, busRead_withKeys]⟩
    · cases h
  | write o width v =>
    simp only [hostOp] at h ⊢
    split at h
    · next hwf =>
      cases h
      obtain ⟨k', hk⟩ := busWrite_withKeys o v k a s
      exact ⟨k', a, by rw [if_pos hwf, hk]⟩
    · cases h
  | poll =>
    have hbusy : (s.withKeys k a).busy = s.busy := rfl
    simp only [hostOp, hbusy] at h ⊢
    cases h
    exact ⟨k, a, by split <;> rfl⟩
  | reset => cases h; exact ⟨State.reset.key, State.reset.aKey, rfl⟩

theorem hostStep_withKeys {s t : State} (k : Quad) (a : Wide) (h : hostStep s = .next t) :
    ∃ k' a', hostStep (s.withKeys k a) = .next (t.withKeys k' a') := by
  have hhost : (s.withKeys k a).host = s.host := rfl
  unfold hostStep at h ⊢
  rw [hhost]
  split at h
  · cases h; exact ⟨k, a, rfl⟩
  · next op rest _ => exact hostOp_withKeys (s := s.setHost rest) k a h

/-- Settles O51: no offset reads a key, so the two states stay alike but for the keys. -/
theorem noReadShowsTheKey : Obligations.NoReadShowsTheKey := by
  intro s t k a h
  obtain ⟨k', a', h'⟩ := hostStep_withKeys k a h
  exact ⟨t.withKeys k' a', h', rfl, fun o => readWindow_withKeys o k' a' t⟩

end Machine

end Sys2Proof
end
